-- ==== Sys2Proof/Word.lean ====
section
/-! DEFINITION. The widths the manual fixes (section 3.1, section 3.2 and section 11.9 of the manual). -/

namespace Sys2Proof

/-- One byte on a link or in the exchange area. -/
abbrev Byte := BitVec 8

/-- A 32-bit register, or any other 32-bit field that the manual treats as bits. -/
abbrev Word := BitVec 32

/-- A transmit window count: counted modulo 2^32 (section 3.2). -/
abbrev Win := BitVec 32

/-- A set of zones, zone `z` at bit `z` (section 11.9). -/
abbrev ZoneSet := BitVec 8

/-- A set of receiver sites, site `s` at bit `s` (R120). -/
abbrev SiteSet := BitVec 16

end Sys2Proof
end

