-- ==== Sys2Proof/Config.lean ====
section
/-! DEFINITION. What the manual leaves open: constants with no body, so that no proof can rest on a value of them.
Each is named in the assumption log. -/

namespace Sys2Proof

/-- The revision halfword of the identification (section 11.9.2 names the field and gives no value). Log 10. -/
opaque Config.revision : BitVec 16

/-- What a yes/no byte that is neither 0 nor 1 says (section 11.9.4 gives no other code). Log 11. -/
opaque Config.flagByte : BitVec 8 → Bool

/-- Whether a controller status byte that is neither 0 nor 1 says ON-AIR (section 11.9.6 gives two codes). Log 12. -/
opaque Config.statusByte : BitVec 8 → Bool

/-- Which of the four marks (0 UNUSED, 1 FREE, 2 FILLING, 3 SEALED) a page list mark byte over 3 is read as
(section 11.9.3 gives four codes). Log 13. -/
opaque Config.pageMarkByte : BitVec 8 → Fin 4

end Sys2Proof
end

