-- ==== Sys2Proof/Syntax.lean ====
section
/-! DEFINITION. The commands of the DM-410: one constructor of `Instr` for each row of spec/opcode_table.json, with the
operands its event carries. Bytes, codes and numbers that come from outside are raw (unchecked) here: the meanings make
the checks the manual gives. -/

namespace Sys2Proof

/-- A port unit: A or B (chapter 11). -/
inductive Port where
  | A | B
  deriving DecidableEq, Repr

/-- The other port unit. -/
def Port.other : Port → Port
  | .A => .B
  | .B => .A

/-- The five registers of a port's register window (R182), at offsets 0x00, 0x04, 0x08, 0x0C, 0x10. -/
inductive Reg where
  | area | scan | notice | noticeEnable | control
  deriving DecidableEq, Repr

/-- What the host's bus answers to the accesses of one event (R178 to R181, R184, R186): `true` is a bus error.
`slipRead`: the read of the slip; `answer`, `mark`: the writes of its answer and of its mark; `kept i`: the write of the
kept answer of index `i`; `filling`: the write of a FILLING mark; `record`: the write of a journal record; `sealHeader`,
`sealMark`: the two writes of a seal; `headerA`, `headerB`: the write of the changed header fields at each port.
Log 5. -/
structure Bus where
  slipRead   : Bool := false
  answer     : Bool := false
  mark       : Bool := false
  kept       : BitVec 64 := 0
  filling    : Bool := false
  record     : Bool := false
  sealHeader : Bool := false
  sealMark   : Bool := false
  headerA    : Bool := false
  headerB    : Bool := false
  deriving DecidableEq, Repr

/-- One page list entry as read from host memory (section 11.9.3): its address and its mark byte. -/
structure PageEntry where
  address : BitVec 64
  mark    : Byte
  deriving DecidableEq, Repr

/-- What the port unit reads of its page list: entry `i` at place `i`, `none` where the read meets a bus error (R178). -/
abbrev PageList := List (Option PageEntry)

/-- The selector and name fields by which a slip names a subscriber (R12, section 11.9.4). -/
structure SubName where
  selector : Byte
  name     : Word
  deriving DecidableEq, Repr

/-- The fields of a SUBMIT slip (R57, section 11.9.4); the text length is the length of `text`. -/
structure SubmitReq where
  number    : Word
  cls       : Byte
  kind      : Byte
  clientRef : Word
  expiry    : BitVec 16
  text      : List Byte
  deriving DecidableEq, Repr

/-- The fields of a SUBSCRIBER ADD (R13). -/
structure AddReq where
  slot     : Word
  number   : Word
  pager    : BitVec 24
  plan     : Byte
  twoWay   : Bool
  home     : Byte
  wake     : Byte
  area     : ZoneSet
  override : Bool
  ownBase  : BitVec 16
  ownCell  : BitVec 16
  deriving DecidableEq, Repr

/-- The change mask and values of a SUBSCRIBER MODIFY (R15): a field the mask does not select is `none`. -/
structure ModReq where
  number   : Option Word
  pager    : Option (BitVec 24)
  twoWay   : Option Bool
  plan     : Option Byte
  home     : Option Byte
  wake     : Option Byte
  area     : Option ZoneSet
  override : Option Bool
  rates    : Option (BitVec 16 × BitVec 16)
  deriving DecidableEq, Repr

/-- The values of a TARIFF SET, in the order of R168, as the slip carries them (before any clamp). -/
structure PlanReq where
  kind        : Byte
  allowed     : Byte
  queueLimit  : Byte
  retryLimit  : Byte
  repeatCount : Byte
  hold        : Byte
  expiry      : BitVec 16
  allowance   : Word
  base        : BitVec 16
  cell        : BitVec 16
  bands       : Vector Byte 4
  surcharges  : Vector Byte 4
  search      : BitVec 16
  undelivered : Byte
  cap         : Word
  floor       : Word
  ceiling     : Word
  deriving DecidableEq, Repr

/-- The values of a SETTINGS SET, in the order of R189, as the slip carries them (before any clamp). -/
structure SettingsReq where
  windowLength  : BitVec 16
  clockSource   : Byte
  ackDelay      : Byte
  mergeSpan     : Byte
  grantLimit    : Byte
  capacity      : Vector Byte 8
  neighbours    : Vector ZoneSet 8
  siteZone      : Vector Byte 16
  lineThreshold : Byte
  zoneThreshold : Byte
  frameTimeout  : Byte
  sealDelay     : Byte
  tagIdle       : Byte
  deriving DecidableEq, Repr

/-- The commands. A slip command names the port whose scan takes the slip and the slip's index. A frame or answer command
carries the last byte of the frame or answer: its arrival is the completion event (log 21). -/
inductive Instr where
  -- power and registers
  | powerOnReset
  | startUpWalkVisit (places : Nat) (b : Bus)
  | portReset (p : Port) (b : Bus)
  | scanRequest (p : Port) (b : Bus)
  | noticeClear (p : Port) (v : Word) (b : Bus)
  | noticeEnableWrite (p : Port) (v : Word) (b : Bus)
  | registerWrite (p : Port) (r : Reg) (v : Word) (b : Bus)
  | controlTry (p : Port) (b : Bus)
  | controlRelease (p : Port) (b : Bus)
  | controlForce (p : Port) (b : Bus)
  | controlPeer (p : Port) (v : BitVec 16) (b : Bus)
  -- the window clock
  | windowTimerExpiry (b : Bus)
  | strobe (t : Nat) (b : Bus)
  | toleranceExpiry (b : Bus)
  -- reactions to a window start or a sweep start
  | coolDownEnd (b : Bus)
  | lateEntryMove (b : Bus)
  | messageExpiry (b : Bus)
  | windowBuild (b : Bus)
  | loadDeclaration (b : Bus)
  | deadlineExamination (order : List Nat) (b : Bus)
  | mergeClose (b : Bus)
  | offerDeadline (b : Bus)
  | idleRelease (b : Bus)
  | lineSweepStart (b : Bus)
  | zoneSweepStart (b : Bus)
  | zoneProbe (z : Fin 8) (b : Bus)
  | testLoadSend (z : Fin 8) (b : Bus)
  | sealDelayExpiry (p : Port) (b : Bus)
  | headerRefresh (p : Port) (b : Bus)
  | replyFrameWindowDiscard (k : Fin 4) (b : Bus)
  | scan (p : Port) (b : Bus)
  -- the scan, the journal and the period walk
  | scanEnd (p : Port) (pages : PageList) (b : Bus)
  | pageChoice (p : Port) (pages : PageList) (b : Bus)
  | journalRecordWrite (p : Port) (b : Bus)
  | periodWalkStep (b : Bus)
  | periodEnd (b : Bus)
  -- slips
  | submit (p : Port) (ix : Fin 64) (r : SubmitReq) (b : Bus)
  | cancel (p : Port) (ix : Fin 64) (serial : Word) (b : Bus)
  | query (p : Port) (ix : Fin 64) (serial : Word) (b : Bus)
  | release (p : Port) (ix : Fin 64) (serial : Word) (b : Bus)
  | subscriberAdd (p : Port) (ix : Fin 64) (r : AddReq) (b : Bus)
  | subscriberModify (p : Port) (ix : Fin 64) (n : SubName) (r : ModReq) (b : Bus)
  | subscriberSuspend (p : Port) (ix : Fin 64) (n : SubName) (b : Bus)
  | subscriberResume (p : Port) (ix : Fin 64) (n : SubName) (b : Bus)
  | subscriberRemove (p : Port) (ix : Fin 64) (n : SubName) (b : Bus)
  | subscriberRead (p : Port) (ix : Fin 64) (n : SubName) (b : Bus)
  | tariffSet (p : Port) (ix : Fin 64) (plan : Word) (r : PlanReq) (b : Bus)
  | tariffRead (p : Port) (ix : Fin 64) (plan : Word) (b : Bus)
  | credit (p : Port) (ix : Fin 64) (n : SubName) (amount : Word) (b : Bus)
  | setBand (p : Port) (ix : Fin 64) (band : Byte) (b : Bus)
  | periodClose (p : Port) (ix : Fin 64) (b : Bus)
  | periodStatus (p : Port) (ix : Fin 64) (b : Bus)
  | lineOpen (p : Port) (ix : Fin 64) (line : Word) (b : Bus)
  | lineClose (p : Port) (ix : Fin 64) (line : Word) (b : Bus)
  | lineRead (p : Port) (ix : Fin 64) (line : Word) (b : Bus)
  | zoneInService (p : Port) (ix : Fin 64) (zone : Word) (b : Bus)
  | zoneOutOfService (p : Port) (ix : Fin 64) (zone : Word) (b : Bus)
  | zoneTest (p : Port) (ix : Fin 64) (zone : Word) (b : Bus)
  | zoneQuery (p : Port) (ix : Fin 64) (zone : Word) (b : Bus)
  | settingsSet (p : Port) (ix : Fin 64) (r : SettingsReq) (b : Bus)
  | settingsRead (p : Port) (ix : Fin 64) (b : Bus)
  | malformedSlip (p : Port) (ix : Fin 64) (kind op : Byte) (b : Bus)
  -- entry lines
  | lineSubmitFrame (l : Fin 8) (byte : Byte) (b : Bus)
  | lineProbeFrame (l : Fin 8) (byte : Byte) (b : Bus)
  | bodyLengthOverrun (l : Fin 8) (byte : Byte) (b : Bus)
  | lineFramingFailure (l : Fin 8) (b : Bus)
  | frameTimeout (l : Fin 8) (b : Bus)
  | answerSent (l : Fin 8) (b : Bus)
  | entryLineByteArrival (l : Fin 8) (byte : Byte) (b : Bus)
  -- reply links
  | ack (k : Fin 4) (byte : Byte) (b : Bus)
  | gap (k : Fin 4) (byte : Byte) (b : Bus)
  | register (k : Fin 4) (byte : Byte) (b : Bus)
  | tagConfirm (k : Fin 4) (byte : Byte) (b : Bus)
  | replyLinkFramingFailure (k : Fin 4) (b : Bus)
  | replyLinkByteArrival (k : Fin 4) (byte : Byte) (b : Bus)
  -- zone links
  | loadOk (z : Fin 8) (byte : Byte) (b : Bus)
  | loadBad (z : Fin 8) (byte : Byte) (b : Bus)
  | loadAnswerTimeout (z : Fin 8) (b : Bus)
  | probeOk (z : Fin 8) (byte : Byte) (b : Bus)
  | probeTimeout (z : Fin 8) (b : Bus)
  | echo (z : Fin 8) (byte : Byte) (b : Bus)
  | echoTimeout (z : Fin 8) (b : Bus)
  | answerAssemblyTimeout (z : Fin 8) (b : Bus)
  | zoneLinkFramingFailure (z : Fin 8) (b : Bus)
  | unknownAnswerKind (z : Fin 8) (byte : Byte) (b : Bus)
  | controllerAnswerByte (z : Fin 8) (byte : Byte) (b : Bus)
  deriving DecidableEq, Repr

end Sys2Proof
end

