-- ==== Sys2Proof/Machine/State.lean ====
section
/-! DEFINITION. The state of the DM-410 as plain data, the reasons a step can stop, and the state after power-on reset. -/

namespace Sys2Proof.Machine

/-- Nothing stops this machine with a fault: every command of the table has an effect the manual gives, and a bus error
is captured in a port's fault word (R188), which is state. The type has no constructor; that is safe. -/
inductive Fault where
  deriving DecidableEq, Repr

/-- The reasons a command may be turned away without a meaning. -/
inductive Refusal where
  /-- Raised only by an arm of `exec` whose command has no meaning yet (there is none): safe, nothing is claimed of it. -/
  | notModelled (mnemonic : String)
  deriving DecidableEq, Repr

/-! ### Subscriber table (chapter 1, chapter 10) -/

/-- The state of a slot that holds a subscriber (R2); a VACANT slot holds none. -/
inductive SubState where
  | active | suspended
  deriving DecidableEq, Repr

/-- The tag state of a subscriber (R1). -/
inductive TagState where
  | none | offered | confirmed
  deriving DecidableEq, Repr

/-- The kind of a control item (R11). -/
inductive ControlKind where
  | offer | withdraw
  deriving DecidableEq, Repr

/-- A pending control item: its kind, the tag it carries, its due window and its placed mark (R11, R84, R134). -/
structure Pending where
  kind   : ControlKind
  tag    : Nat
  due    : Win
  placed : Bool
  deriving DecidableEq, Repr

/-- The postpaid state of an account (R164). -/
inductive Postpaid where
  | opened | capped
  deriving DecidableEq, Repr

/-- The account of a subscriber record (R164). -/
structure Account where
  balance         : Int
  committed       : Nat
  usage           : Nat
  allowance       : Nat
  period          : BitVec 8
  periodCharge    : Nat
  periodCount     : Nat
  periodAllowance : Nat
  postpaid        : Postpaid
  deriving DecidableEq, Repr

/-- A subscriber record in an ACTIVE or SUSPENDED slot (R1), beside its final count, which the slot holds. -/
structure Subscriber where
  state     : SubState
  number    : Nat
  pager     : Nat
  plan      : Fin 16
  twoWay    : Bool
  home      : Nat
  wake      : Fin 4
  area      : ZoneSet
  lastKnown : Option ZoneSet
  tag       : Option Nat
  tagState  : TagState
  offers    : Nat
  pending   : Option Pending
  lastReply : Option Win
  nextSeq   : Nat
  queue     : List Nat
  override  : Bool
  ownBase   : Nat
  ownCell   : Nat
  account   : Account
  deriving DecidableEq, Repr

/-- A slot of the subscriber table: no subscriber when VACANT, and the final count in every state (R1, R3). -/
structure Slot where
  sub        : Option Subscriber
  finalCount : Nat
  deriving DecidableEq, Repr

/-! ### Message store (chapter 2) -/

/-- The kind of a message (section 3.5). -/
inductive MsgKind where
  | tone | numeric | text
  deriving DecidableEq, Repr

/-- The class of a message, highest first (R27, R89). -/
inductive MsgClass where
  | urgent | high | normal | routine
  deriving DecidableEq, Repr

/-- Where a message came from (R27). -/
inductive Origin where
  | port (p : Port)
  | line (l : Fin 8)
  deriving DecidableEq, Repr

/-- The state of a message record in use (R28). -/
inductive MsgState where
  | waiting | loaded | sent | retryWait | held | final
  deriving DecidableEq, Repr

/-- How a message ended (R27). -/
inductive Disposition where
  | delivered | undeliverable | expired | cancelled | withdrawn
  deriving DecidableEq, Repr

/-- A text block of the text pool: 32 bytes (R24). -/
abbrev TextBlock := Vector Byte 32

/-- A message record in use (R27). `blocks` is its chain of text blocks, first block first (R26); `owesOutcome` and
`owesDelivery` are the reports pending; `finalWindow` is the window of becoming final, which the OUTCOME record carries
(section 11.9.5, log 24). -/
structure Message where
  serial        : Nat
  slot          : Nat
  origin        : Origin
  clientRef     : Word
  kind          : MsgKind
  cls           : MsgClass
  origCls       : MsgClass
  length        : Nat
  blocks        : List TextBlock
  cells         : Nat
  seq           : Nat
  state         : MsgState
  round         : Nat
  attempts      : Nat
  attemptZones  : ZoneSet
  sentZones     : ZoneSet
  firstZones    : Nat
  zoneSends     : Nat
  transmitted   : Bool
  due           : Option Win
  deadline      : Option Win
  expiry        : Win
  accepted      : Win
  deferrals     : Nat
  band          : Fin 4
  estimate      : Option Nat
  repeats       : Nat
  backoff       : Nat
  disposition   : Option Disposition
  charge        : Option Nat
  allowanceUsed : Option Nat
  owesOutcome   : Bool
  owesDelivery  : Bool
  finalWindow   : Option Win
  deriving DecidableEq, Repr

/-! ### Entry lines (chapter 3) -/

/-- The line state (R45). -/
inductive LineState where
  | closed | opened | quiet
  deriving DecidableEq, Repr

/-- The receive state (R45): ASSEMBLING holds the arrival time of the frame's lead mark and the frame timeout in force
then (R49), in milliseconds. -/
inductive LineRx where
  | hunting
  | assembling (leadMs timeoutMs : Nat)
  deriving DecidableEq, Repr

/-- The last-taken memory of a line (R53). -/
structure LastTaken where
  tag    : Byte
  check  : Byte
  serial : Nat
  flags  : Byte
  deriving DecidableEq, Repr

/-- The reason of a REFUSED answer (section 11.9.6). -/
inductive RefuseReason where
  | badFrame | lineQuiet | badKind | unknown | suspended | kindNotAllowed | queueFull | noCredit
  deriving DecidableEq, Repr

/-- The part state (section 2.4 of the manual, R191). -/
inductive PartState where
  | starting | ready
  deriving DecidableEq, Repr

/-- An answer frame of an entry line (R51, section 11.9.6). -/
inductive LineAnswer where
  | taken (tag : Byte) (serial : Nat) (flags : Byte)
  | refused (tag : Byte) (reason : RefuseReason)
  | busy (tag : Byte)
  | alive (tag : Byte) (part : PartState)
  deriving DecidableEq, Repr

/-- One entry line (R45). -/
structure Line where
  state       : LineState
  rx          : LineRx
  buffer      : List Byte
  lastTaken   : Option LastTaken
  errorsSweep : Nat
  answers     : List LineAnswer
  taken       : Nat
  busy        : Nat
  errorTotal  : Nat
  deriving DecidableEq, Repr

/-! ### Window clock and settings (chapter 4, R189) -/

/-- The clock state (R69). -/
inductive ClockState where
  | internal | strobe | fallback
  deriving DecidableEq, Repr

/-- The clock source setting (R69, R189). -/
inductive ClockSource where
  | internal | strobe
  deriving DecidableEq, Repr

/-- The window clock (R69): `timer` is the window timer in whole milliseconds, `length` the length in force. -/
structure Clock where
  now          : Win
  timer        : Nat
  length       : Nat
  state        : ClockState
  strobesHeard : Nat
  early        : Nat
  fallbacks    : Nat
  deriving DecidableEq, Repr

/-- The settings (R189). -/
structure Settings where
  windowLength  : Nat
  clockSource   : ClockSource
  ackDelay      : Nat
  mergeSpan     : Nat
  grantLimit    : Nat
  capacity      : Vector Nat 8
  neighbours    : Vector ZoneSet 8
  siteZone      : Vector (Fin 8) 16
  lineThreshold : Nat
  zoneThreshold : Nat
  frameTimeout  : Nat
  sealDelay     : Nat
  tagIdle       : Nat
  deriving DecidableEq, Repr

/-! ### Zone links (chapter 5, chapter 6) -/

/-- The link state (R98). -/
inductive LinkState where
  | idle | sync | linked | down | test
  deriving DecidableEq, Repr

/-- An item of a load, as the builder wrote it (R83). -/
inductive LoadItem where
  | message (serial slot pager seq : Nat) (cls : MsgClass) (kind : MsgKind) (text : List Byte) (cells : Nat)
  | control (kind : ControlKind) (slot pager tag : Nat)
  deriving DecidableEq, Repr

/-- The transfer state of a held load (R104). -/
inductive Xfer where
  | awaiting | sending | acknowledged | abandoned
  deriving DecidableEq, Repr

/-- A held load (R83, R104): its items, cells, control items, transfer state and sends made. -/
structure Load where
  window   : Win
  items    : List LoadItem
  cells    : Nat
  controls : Nat
  xfer     : Xfer
  sends    : Nat
  deriving DecidableEq, Repr

/-- The echo a test load awaits (R114): the window it names, the body sent, and when it was sent. -/
structure EchoWait where
  window : Win
  body   : List Byte
  sentMs : Nat
  deriving DecidableEq, Repr

/-- One zone link (R98), with the exchange in progress (R101, R103 to R105, R114) that its rules imply: when the probe
that awaits its answer and the load in SENDING were sent, the echo awaited, the answer being assembled and when its kind
byte arrived, and the frame most recently sent. `lastBuild` holds the cells and items of R80. -/
structure Zone where
  link           : LinkState
  inService      : Bool
  onAir          : Bool
  goodProbes     : Nat
  held           : List Load
  errorsSweep    : Nat
  errorTotal     : Nat
  loadsOnAir     : Nat
  loadsMissed    : Nat
  resends        : Nat
  strayAnswers   : Nat
  pattern        : BitVec 9
  testLoads      : Nat
  testMismatches : Nat
  probeMs        : Option Nat
  sendMs         : Nat
  echo           : Option EchoWait
  rxBytes        : List Byte
  rxMs           : Nat
  lastFrame      : List Byte
  lastBuild      : Option (Nat × Nat)
  deriving DecidableEq, Repr

/-! ### Reply unit and retry unit (chapter 7, chapter 8) -/

/-- The kind of a reply (section 7.2). -/
inductive ReplyKind where
  | ack | gap | register | tagConfirm
  deriving DecidableEq, Repr

/-- One reply link (R116): HUNTING is `none`, ASSEMBLING holds the bytes taken after the lead mark. -/
structure ReplyLink where
  rx          : Option (List Byte)
  framesTaken : Nat
  badFrames   : Nat
  deriving DecidableEq, Repr

/-- An open merge list entry (R120). -/
structure MergeEntry where
  kind  : ReplyKind
  slot  : Nat
  pager : Nat
  seq   : Nat
  first : Win
  sites : SiteSet
  deriving DecidableEq, Repr

/-- An offer wait entry (R128). -/
structure OfferWait where
  slot     : Nat
  tag      : Nat
  deadline : Win
  deriving DecidableEq, Repr

/-- The counts of the reply unit (R116). -/
structure ReplyCounts where
  strays      : Nat
  duplicates  : Nat
  earlyCloses : Nat
  reclaims    : Nat
  noTag       : Nat
  deriving DecidableEq, Repr

/-- The counts of the retry unit (R135). -/
structure RetryCounts where
  attemptsOnAir : Nat
  missedReturns : Nat
  retries       : Nat
  holds         : Nat
  releases      : Nat
  exhaustions   : Nat
  deriving DecidableEq, Repr

/-! ### Tariff table and period walk (chapter 10) -/

/-- The account kind of a plan (R168). -/
inductive AccountKind where
  | prepaid | postpaid
  deriving DecidableEq, Repr

/-- A plan of the tariff table (R168). -/
structure Plan where
  kind         : AccountKind
  allowTone    : Bool
  allowNumeric : Bool
  allowText    : Bool
  queueLimit   : Nat
  retryLimit   : Nat
  repeatCount  : Nat
  hold         : Bool
  expiry       : Nat
  allowance    : Nat
  base         : Nat
  cell         : Nat
  bands        : Vector Nat 4
  surcharges   : Vector Nat 4
  search       : Nat
  undelivered  : Nat
  cap          : Nat
  floor        : Int
  ceiling      : Nat
  deriving DecidableEq, Repr

/-- The state of the period close walk (R171); its pause reason is computed from the holder and the backlog (R173). -/
structure Walk where
  running   : Bool
  position  : Nat
  newPeriod : BitVec 8
  count     : Nat
  deriving DecidableEq, Repr

/-! ### Journal and port units (chapter 10, chapter 11) -/

/-- What a STATE-CHANGE record is about (section 11.9.5). -/
inductive ChangeSource where
  | line (l : Fin 8)
  | zone (z : Fin 8)
  | clock
  deriving DecidableEq, Repr

/-- The cause of a STATE-CHANGE record (section 11.9.5). -/
inductive ChangeCause where
  | slip | errors | sweepStart | probes | controller | sourceSetting | tolerance | strobe
  deriving DecidableEq, Repr

/-- The cause of a move of control (R187). -/
inductive MoveCause where
  | tried | released | forced | portReset
  deriving DecidableEq, Repr

/-- A PERIOD-TOTAL record (R172). -/
structure PeriodTotal where
  slot            : Nat
  number          : Nat
  period          : BitVec 8
  balance         : Int
  committed       : Nat
  usage           : Nat
  allowance       : Nat
  periodCharge    : Nat
  periodCount     : Nat
  periodAllowance : Nat
  postpaid        : Postpaid
  deriving DecidableEq, Repr

/-- A STATE-CHANGE record (R46, R78, R100, section 11.9.5); `old` and `new` are state codes. -/
structure StateChange where
  source    : ChangeSource
  old       : Nat
  new       : Nat
  cause     : ChangeCause
  inService : Bool
  onAir     : Bool
  window    : Win
  deriving DecidableEq, Repr

/-- An item of a report queue (R175): a reference to a final message by its serial, or a record held whole. -/
inductive Item where
  | outcome (serial : Nat)
  | delivery (serial : Nat)
  | periodTotal (r : PeriodTotal)
  | periodEnd (period : BitVec 8) (count : Nat) (window : Win)
  | stateChange (r : StateChange)
  | controlMoved (old new : Option Port) (cause : MoveCause) (window : Win)
  deriving DecidableEq, Repr

/-- The current journal page of a port (R178): its entry, its address in host memory, the records written, the first
journal number, the window in which it became FILLING, and whether a seal of it has failed and is owed (R180). -/
structure Page where
  entry    : Fin 16
  address  : Nat
  written  : Nat
  first    : Word
  since    : Win
  sealOwed : Bool
  deriving DecidableEq, Repr

/-- The codes of a slip answer (section 11.9.4). -/
inductive Code where
  | done | accepted | started | lastRound | notReady | malformed | notControl | notOwner | walkRunning | badSlot
  | unknown | vacantSlot | slotInUse | slotDraining | badNumber | badPager | numberInUse | pagerInUse | emptyArea
  | badPlan | inFlight | badKind | tooLong | suspended | kindNotAllowed | queueFull | storeFull | noCredit | tooLate
  | notHeld | notPrepaid | badLine | badZone | notIdle
  deriving DecidableEq, Repr

/-- An answer of a slip: its code, its flags (section 11.9.4) and the bytes of its fields from offset 16. -/
structure Answer where
  code   : Code
  flags  : BitVec 16 := 0
  fields : List Byte := []
  deriving DecidableEq, Repr

/-- A running scan (R185): the index it began at, how many indices it has examined, the last slip taken, and whether a
slip has been answered. -/
structure ScanRun where
  start     : Fin 64
  examined  : Nat
  lastTaken : Option (Fin 64)
  answered  : Bool
  deriving DecidableEq, Repr

/-- The kinds of fault a port captures (R188). -/
inductive FaultKind where
  | areaRead | areaWrite | malformedSlip | badPage | badArea
  deriving DecidableEq, Repr

/-- The fault word (R188): the kind, the index and the next journal number at the capture. -/
structure FaultWord where
  kind   : FaultKind
  index  : Nat
  number : Word
  deriving DecidableEq, Repr

/-- One port unit (R175, R176, R178, R182). `area` is the base of the area in use; `recordOwed` says that a record write
has failed and is owed at the next scan (R179); `scanDue`, `sealDue` and `headerDue` are the port's reactions to the
window start (R71) not yet taken; `hostMem` holds the bytes that this port unit has written into its host's memory. -/
structure PortUnit where
  areaReg    : Word
  area       : Option Nat
  notice     : BitVec 10
  enable     : BitVec 10
  scanPos    : Fin 64
  scan       : Option ScanRun
  rescan     : Bool
  kept       : List (Nat × Answer)
  faultWord  : Option FaultWord
  faultCount : Nat
  locked     : Bool
  queue      : List Item
  gap        : Bool
  dropped    : Nat
  current    : Option Page
  search     : Fin 16
  stalled    : Bool
  recordOwed : Bool
  nextNumber : Word
  nextPage   : Word
  scanDue    : Bool
  sealDue    : Bool
  headerDue  : Bool
  hostMem    : List Host.Cell
  deriving DecidableEq, Repr

/-- The control claim (R187). -/
structure Control where
  holder : Option Port
  tryA   : Bool
  tryB   : Bool
  peerA  : BitVec 16
  peerB  : BitVec 16
  deriving DecidableEq, Repr

/-- The reactions to the last window start and sweep start (R71, R72) that have not been taken yet. Log 2. -/
structure Due where
  coolDown      : Bool
  lateEntry     : Bool
  expiry        : Bool
  build         : Bool
  declaration   : Bool
  deadline      : Bool
  mergeClose    : Bool
  offerDeadline : Bool
  probe         : BitVec 8
  testLoad      : BitVec 8
  replyDiscard  : BitVec 4
  idleRelease   : Bool
  lineSweep     : Bool
  zoneSweep     : Bool
  deriving DecidableEq, Repr

/-- The whole state. `pending` is the queue of commands that wait, first in first out; `ms` is the model's own count of
milliseconds, by which arrival times and 250 ms answer times are kept (log 3, log 4). `slots`, `msgs`, the maps and the
calendars are lists by rising key; an unlisted slot is VACANT with final count 0, an unlisted window has an empty list. -/
structure State where
  pending      : List Instr
  part         : PartState
  startUp      : Nat
  ms           : Nat
  clock        : Clock
  due          : Due
  settings     : Settings
  slots        : List (Nat × Slot)
  numbers      : List (Nat × Nat)
  pagers       : List (Nat × Nat)
  tags         : List (Nat × Nat)
  tagFree      : List Nat
  coolDown     : List (Nat × Option Win)
  msgs         : List (Nat × Message)
  freePlaces   : Nat
  freeBlocks   : Nat
  dueCal       : List (Nat × List Nat)
  expiryCal    : List (Nat × List Nat)
  nextSerial   : Nat
  lines        : Vector Line 8
  zones        : Vector Zone 8
  deferrals    : Nat
  promotions   : Nat
  replyLinks   : Vector ReplyLink 4
  merge        : List MergeEntry
  offerWait    : List OfferWait
  replyCounts  : ReplyCounts
  retryCounts  : RetryCounts
  plans        : Vector Plan 16
  band         : Fin 4
  globalPeriod : BitVec 8
  walk         : Walk
  unheld       : List Item
  control      : Control
  portA        : PortUnit
  portB        : PortUnit
  deriving DecidableEq, Repr

/-! ### Power-on values -/

/-- A line after power-on reset (R45). -/
def Line.reset : Line :=
  { state := .closed, rx := .hunting, buffer := [], lastTaken := none, errorsSweep := 0, answers := [], taken := 0,
    busy := 0, errorTotal := 0 }

/-- A zone link after power-on reset (R80, R98). -/
def Zone.reset : Zone :=
  { link := .idle, inService := false, onAir := false, goodProbes := 0, held := [], errorsSweep := 0, errorTotal := 0,
    loadsOnAir := 0, loadsMissed := 0, resends := 0, strayAnswers := 0, pattern := 0x1FF#9, testLoads := 0,
    testMismatches := 0, probeMs := none, sendMs := 0, echo := none, rxBytes := [], rxMs := 0, lastFrame := [],
    lastBuild := none }

/-- The window clock after power-on reset: window 0 has started (R69). -/
def Clock.reset : Clock :=
  { now := 0, timer := 0, length := 1500, state := .internal, strobesHeard := 0, early := 0, fallbacks := 0 }

/-- The default settings (R189); the neighbours of zone `z` are `z - 1` and `z + 1` (R137), and site `s` maps to zone
`s div 2` (R116). -/
def Settings.reset : Settings :=
  { windowLength := 1500, clockSource := .internal, ackDelay := 4, mergeSpan := 2, grantLimit := 4,
    capacity := Vector.replicate 8 160,
    neighbours := #v[0x02, 0x05, 0x0A, 0x14, 0x28, 0x50, 0xA0, 0x40],
    siteZone := #v[0, 0, 1, 1, 2, 2, 3, 3, 4, 4, 5, 5, 6, 6, 7, 7],
    lineThreshold := 4, zoneThreshold := 3, frameTimeout := 2, sealDelay := 8, tagIdle := 30 }

/-- A plan after power-on reset (R168). -/
def Plan.reset : Plan :=
  { kind := .postpaid, allowTone := true, allowNumeric := true, allowText := true, queueLimit := 4, retryLimit := 0,
    repeatCount := 0, hold := false, expiry := 960, allowance := 0, base := 0, cell := 0,
    bands := Vector.replicate 4 64, surcharges := Vector.replicate 4 0, search := 0, undelivered := 0, cap := 0,
    floor := 0, ceiling := 0 }

/-- A port unit after power-on reset (R175, R176, R178, R182), window 0 having just started. -/
def PortUnit.reset : PortUnit :=
  { areaReg := 0, area := none, notice := 0, enable := 0, scanPos := 0, scan := none, rescan := false, kept := [],
    faultWord := none, faultCount := 0, locked := false, queue := [], gap := false, dropped := 0, current := none,
    search := 0, stalled := false, recordOwed := false, nextNumber := 0, nextPage := 0, scanDue := true, sealDue := true,
    headerDue := true, hostMem := [] }

/-- Every reaction to a window start that is also a sweep start is still to be taken. -/
def Due.all : Due :=
  { coolDown := true, lateEntry := true, expiry := true, build := true, declaration := true, deadline := true,
    mergeClose := true, offerDeadline := true, probe := 0xFF, testLoad := 0xFF, replyDiscard := 0xF, idleRelease := true,
    lineSweep := true, zoneSweep := true }

/-- The machine right after power-on reset (R191): STARTING, window 0 started, the account memory reading as the
chapters give it after power-on reset, the free list holding the tags 1 to 4,095 in ascending order (R9). DESIGN CHOICE
(log 46): the walk's new period, for which R171 gives no value, is 0. -/
def State.reset : State :=
  { pending := [], part := .starting, startUp := 0, ms := 0, clock := Clock.reset, due := Due.all,
    settings := Settings.reset, slots := [], numbers := [], pagers := [], tags := [], tagFree := List.range' 1 4095,
    coolDown := [], msgs := [], freePlaces := 4096, freeBlocks := 8192, dueCal := [], expiryCal := [], nextSerial := 1,
    lines := Vector.replicate 8 Line.reset, zones := Vector.replicate 8 Zone.reset, deferrals := 0, promotions := 0,
    replyLinks := Vector.replicate 4 { rx := none, framesTaken := 0, badFrames := 0 }, merge := [], offerWait := [],
    replyCounts := { strays := 0, duplicates := 0, earlyCloses := 0, reclaims := 0, noTag := 0 },
    retryCounts := { attemptsOnAir := 0, missedReturns := 0, retries := 0, holds := 0, releases := 0, exhaustions := 0 },
    plans := Vector.replicate 16 Plan.reset, band := 0, globalPeriod := 0,
    walk := { running := false, position := 0, newPeriod := 0, count := 0 }, unheld := [],
    control := { holder := none, tryA := false, tryB := false, peerA := 0, peerB := 0 },
    portA := PortUnit.reset, portB := PortUnit.reset }

end Sys2Proof.Machine
end

