-- ==== Sys2Proof/Machine/Assoc.lean ====
section
/-! DEFINITION. Sparse collections: lists of key and value pairs by strictly rising key. The slots, the maps, the message
records, the two calendars, the kept answers and the bytes written into host memory are held in this form. -/

namespace Sys2Proof.Machine

/-- The entry of key `k`, if there is one. -/
def Assoc.get? {α : Type} (k : Nat) : List (Nat × α) → Option α
  | [] => none
  | (k', v) :: t => if k = k' then some v else Assoc.get? k t

/-- Sets the entry of key `k` to `v`, keeping the keys in rising order. -/
def Assoc.put {α : Type} (k : Nat) (v : α) : List (Nat × α) → List (Nat × α)
  | [] => [(k, v)]
  | (k', v') :: t =>
    if k < k' then (k, v) :: (k', v') :: t
    else if k = k' then (k, v) :: t
    else (k', v') :: Assoc.put k v t

/-- Takes the entry of key `k` out. -/
def Assoc.erase {α : Type} (k : Nat) (m : List (Nat × α)) : List (Nat × α) :=
  m.filter fun e => e.1 != k

/-- The canonical form: keys strictly rising, so that equal collections are equal lists. -/
abbrev Assoc.wf {α : Type} (m : List (Nat × α)) : Prop :=
  m.Pairwise fun a b => a.1 < b.1

/-- The list of window `w` in a calendar; a window with no list has the empty list (section 2.4 of the manual). -/
def calList (w : Win) (cal : List (Nat × List Nat)) : List Nat :=
  (Assoc.get? w.toNat cal).getD []

/-- Sets the list of window `w`; an empty list is discarded (R36). -/
def calSet (w : Win) (l : List Nat) (cal : List (Nat × List Nat)) : List (Nat × List Nat) :=
  if l = [] then Assoc.erase w.toNat cal else Assoc.put w.toNat l cal

/-- Appends a serial to the tail of the list of window `w` (R33, R37). -/
def calAdd (w : Win) (serial : Nat) (cal : List (Nat × List Nat)) : List (Nat × List Nat) :=
  calSet w (calList w cal ++ [serial]) cal

/-- Removes a serial from the list of window `w` (R34, R40). -/
def calRemove (w : Win) (serial : Nat) (cal : List (Nat × List Nat)) : List (Nat × List Nat) :=
  calSet w ((calList w cal).filter (· != serial)) cal

/-- The canonical form of the bytes written into host memory: addresses strictly rising. An unlisted address reads as
`none`, which no entry holds (log 6). -/
abbrev Memory.wf (m : List Host.Cell) : Prop :=
  Assoc.wf m

/-- The byte this port unit last wrote at address `a` of its host's memory, `none` where it has written none. Log 6. -/
def memRead (a : Nat) (m : List Host.Cell) : Option Byte :=
  Assoc.get? a m

/-- Writes bytes into host memory from address `a` upward. -/
def memWrite (a : Nat) : List Byte → List Host.Cell → List Host.Cell
  | [], m => m
  | b :: bs, m => memWrite (a + 1) bs (Assoc.put a b m)

end Sys2Proof.Machine
end

