-- ==== Sys2Proof/Machine/Codec.lean ====
section
/-! DEFINITION. Bytes: byte orders (section 11.9), the two check codes (section 3.7) and the character substitutions. -/

namespace Sys2Proof.Machine

/-- `n` bytes of a number, least significant first: the byte order of the exchange area (section 11.9). -/
def leBytes : Nat → Nat → List Byte
  | 0, _ => []
  | n + 1, x => BitVec.ofNat 8 x :: leBytes n (x / 256)

/-- `n` bytes of a number, most significant first: the byte order of the links (section 11.9). -/
def beBytes (n x : Nat) : List Byte :=
  (leBytes n x).reverse

/-- The number whose bytes are given, least significant first. -/
def leNat : List Byte → Nat
  | [] => 0
  | b :: t => b.toNat + 256 * leNat t

/-- The number whose bytes are given, most significant first. -/
def beNat (bs : List Byte) : Nat :=
  leNat bs.reverse

/-- A signed 32-bit amount as its unsigned 32-bit pattern (section 3.6, section 11.9). -/
def signed32 (x : Int) : Nat :=
  (x % 4294967296).toNat

/-- One bit step of a CRC whose register has `w` bits: shift left, and take in the generator when the bit shifted out
is 1 (section 3.7). -/
def crcBit {w : Nat} (generator : BitVec w) (r : BitVec w) : BitVec w :=
  if r.msb then (r <<< 1) ^^^ generator else r <<< 1

/-- `n` bit steps. -/
def crcBits {w : Nat} (generator : BitVec w) : Nat → BitVec w → BitVec w
  | 0, r => r
  | n + 1, r => crcBits generator n (crcBit generator r)

/-- The CRC-8 with generator x^8 + x^2 + x + 1 and initial value 0, most significant bit first (section 3.7). -/
def crc8 (bs : List Byte) : Byte :=
  bs.foldl (fun (r : Byte) (b : Byte) => crcBits 0x07#8 8 (r ^^^ b)) 0#8

/-- The CRC-16 with generator x^16 + x^12 + x^5 + 1 and initial value all ones (section 3.7). -/
def crc16 (bs : List Byte) : BitVec 16 :=
  bs.foldl (fun (r : BitVec 16) (b : Byte) => crcBits 0x1021#16 8 (r ^^^ (BitVec.setWidth 16 b <<< (8 : Nat)))) 0xFFFF#16

/-- The two bytes of the CRC-16 as a link carries them. -/
def crc16Bytes (bs : List Byte) : List Byte :=
  beBytes 2 (crc16 bs).toNat

/-- A yes/no byte: 1 is yes and 0 is no; another byte is an open value (log 11). -/
def flagOfByte (b : Byte) : Bool :=
  if b = 0 then false else if b = 1 then true else Config.flagByte b

/-- A yes/no value as a byte. -/
def yesNo (x : Bool) : List Byte :=
  [if x then 1 else 0]

/-- An optional field: a byte that is 0 for absent, or 1 followed by the field (section 11.9.4). -/
def optBytes {α : Type} (f : α → List Byte) : Option α → List Byte
  | none => [0]
  | some x => 1 :: f x

/-- A list: a count byte followed by the members (section 11.9.4). -/
def listBytes {α : Type} (f : α → List Byte) (l : List α) : List Byte :=
  BitVec.ofNat 8 l.length :: l.flatMap f

/-- A list of bytes cut or filled with zeros to exactly `n` bytes. -/
def padTo (n : Nat) (bs : List Byte) : List Byte :=
  (bs ++ List.replicate n 0).take n

/-- A TEXT character after the substitution of R54: outside 0x20 to 0x7E it becomes '?'. -/
def textChar (c : Byte) : Byte :=
  if 0x20 ≤ c.toNat ∧ c.toNat ≤ 0x7E then c else 0x3F

/-- A NUMERIC character after the substitution of R54: other than digits, space, '-', '(' and ')' it becomes a space. -/
def numericChar (c : Byte) : Byte :=
  if (0x30 ≤ c.toNat ∧ c.toNat ≤ 0x39) ∨ c = 0x20 ∨ c = 0x2D ∨ c = 0x28 ∨ c = 0x29 then c else 0x20

/-- The result of a clamp: the value moved to the nearer end of its range, and whether it moved. -/
def clampTo (lo hi x : Nat) : Nat × Bool :=
  if x < lo then (lo, true) else if hi < x then (hi, true) else (x, false)

/-- The clamp of a signed value. -/
def clampInt (lo hi x : Int) : Int × Bool :=
  if x < lo then (lo, true) else if hi < x then (hi, true) else (x, false)

/-- A count raised by `k`, saturating at `cap` (section 3.6 and the counts of every chapter). -/
def satAdd (cap x k : Nat) : Nat :=
  min cap (x + k)

/-- A signed balance saturated to 32 bits (section 3.6). -/
def satBalance (x : Int) : Int :=
  max (-2147483648) (min 2147483647 x)

end Sys2Proof.Machine
end

