-- ==== Sys2Proof/Machine/Flags.lean ====
section
/-! DEFINITION. Codes and flag bits: the notice bits, the answer codes and flags, the state codes and the set operations
over zones and sites (section 11.9). -/

namespace Sys2Proof.Machine

/-- The ten notices of a port (R183). -/
inductive Notice where
  | slips | page | stall | control | peer | fault | line | zone | clock | ready
  deriving DecidableEq, Repr

/-- The bit of a notice in NOTICE and NOTICE ENABLE (section 11.9.1). -/
def Notice.bit : Notice → Nat
  | .slips => 0 | .page => 1 | .stall => 2 | .control => 3 | .peer => 4
  | .fault => 5 | .line => 6 | .zone => 7 | .clock => 8 | .ready => 9

/-- The mask of a notice. -/
def Notice.mask (n : Notice) : BitVec 10 :=
  1#10 <<< n.bit

/-- The answer codes (section 11.9.4). -/
def Code.toNat : Code → Nat
  | .done => 0 | .accepted => 1 | .started => 2 | .lastRound => 3 | .notReady => 4 | .malformed => 5 | .notControl => 6
  | .notOwner => 7 | .walkRunning => 8 | .badSlot => 9 | .unknown => 10 | .vacantSlot => 11 | .slotInUse => 12
  | .slotDraining => 13 | .badNumber => 14 | .badPager => 15 | .numberInUse => 16 | .pagerInUse => 17 | .emptyArea => 18
  | .badPlan => 19 | .inFlight => 20 | .badKind => 21 | .tooLong => 22 | .suspended => 23 | .kindNotAllowed => 24
  | .queueFull => 25 | .storeFull => 26 | .noCredit => 27 | .tooLate => 28 | .notHeld => 29 | .notPrepaid => 30
  | .badLine => 31 | .badZone => 32 | .notIdle => 33

/-- The answer flags: bit 0 CLAMPED, 1 ALTERED, 2 CLASS-LIMITED, 3 SATURATED (section 11.9.4). -/
def slipFlags (clamped altered classLimited saturated : Bool) : BitVec 16 :=
  (if clamped then 1#16 else 0#16) ||| (if altered then 2#16 else 0#16) |||
    (if classLimited then 4#16 else 0#16) ||| (if saturated then 8#16 else 0#16)

/-- The flags of a TAKEN answer: bit 0 TRUNCATED, 1 ALTERED, 2 CLASS-LIMITED, 3 REPEATED (section 11.9.6). -/
def lineFlags (truncated altered classLimited : Bool) : Byte :=
  (if truncated then 1#8 else 0#8) ||| (if altered then 2#8 else 0#8) ||| (if classLimited then 4#8 else 0#8)

/-- The REPEATED flag of a TAKEN answer. -/
def repeatedFlag : Byte := 8#8

/-- The code of a fault kind in the header (section 11.9.2). -/
def FaultKind.toNat : FaultKind → Nat
  | .areaRead => 1 | .areaWrite => 2 | .malformedSlip => 3 | .badPage => 4 | .badArea => 5

/-- The code of a line state: 0 CLOSED, 1 OPEN, 2 QUIET. -/
def LineState.toNat : LineState → Nat
  | .closed => 0 | .opened => 1 | .quiet => 2

/-- The code of a link state: 0 IDLE to 4 TEST. -/
def LinkState.toNat : LinkState → Nat
  | .idle => 0 | .sync => 1 | .linked => 2 | .down => 3 | .test => 4

/-- The code of a clock state: 0 INTERNAL, 1 STROBE, 2 FALLBACK. -/
def ClockState.toNat : ClockState → Nat
  | .internal => 0 | .strobe => 1 | .fallback => 2

/-- The code of a transfer state, in the order of R104. -/
def Xfer.toNat : Xfer → Nat
  | .awaiting => 0 | .sending => 1 | .acknowledged => 2 | .abandoned => 3

/-- The code of a message state, in the order of R28. -/
def MsgState.toNat : MsgState → Nat
  | .waiting => 0 | .loaded => 1 | .sent => 2 | .retryWait => 3 | .held => 4 | .final => 5

/-- The code of a disposition: 0 DELIVERED to 4 WITHDRAWN (section 11.9.5). -/
def Disposition.toNat : Disposition → Nat
  | .delivered => 0 | .undeliverable => 1 | .expired => 2 | .cancelled => 3 | .withdrawn => 4

/-- The code of a class: 0 URGENT to 3 ROUTINE (section 11.9.4). -/
def MsgClass.toNat : MsgClass → Nat
  | .urgent => 0 | .high => 1 | .normal => 2 | .routine => 3

/-- The class of a code; a code over 3 is read as ROUTINE (R54, R57). -/
def MsgClass.ofCode : Nat → MsgClass
  | 0 => .urgent | 1 => .high | 2 => .normal | _ => .routine

/-- The class one step higher; URGENT stays (R91). -/
def MsgClass.raised : MsgClass → MsgClass
  | .urgent => .urgent | .high => .urgent | .normal => .high | .routine => .normal

/-- The code of a message kind: 0 TONE, 1 NUMERIC, 2 TEXT (section 11.9.4). -/
def MsgKind.toNat : MsgKind → Nat
  | .tone => 0 | .numeric => 1 | .text => 2

/-- The message kind of a code, if it is one (R54, R57). -/
def MsgKind.ofCode? : Nat → Option MsgKind
  | 0 => some .tone | 1 => some .numeric | 2 => some .text | _ => none

/-- The code of an origin: 0 PORT-A, 1 PORT-B, 2 to 9 LINE-0 to LINE-7 (section 11.9.5). -/
def Origin.toNat : Origin → Nat
  | .port .A => 0 | .port .B => 1 | .line l => 2 + l.val

/-- The code of a tag state: NONE, OFFERED, CONFIRMED in the order of R1. -/
def TagState.toNat : TagState → Nat
  | .none => 0 | .offered => 1 | .confirmed => 2

/-- The code of a subscriber state: 0 VACANT, 1 ACTIVE, 2 SUSPENDED, in the order of R1. -/
def SubState.toNat : SubState → Nat
  | .active => 1 | .suspended => 2

/-- The code of a control item kind in a slip answer, in the order of R1. -/
def ControlKind.toNat : ControlKind → Nat
  | .offer => 0 | .withdraw => 1

/-- The code of a postpaid state, in the order of R164. -/
def Postpaid.toNat : Postpaid → Nat
  | .opened => 0 | .capped => 1

/-- The code of an account kind, in the order of R168. -/
def AccountKind.toNat : AccountKind → Nat
  | .prepaid => 0 | .postpaid => 1

/-- The code of a clock source, in the order of R189. -/
def ClockSource.toNat : ClockSource → Nat
  | .internal => 0 | .strobe => 1

/-- The code of a port as holder of control: 0 none, 1 A, 2 B (section 11.9.1). -/
def holderCode : Option Port → Nat
  | none => 0 | some .A => 1 | some .B => 2

/-- The code of a port in a page header: 0 A, 1 B (section 11.9.3). -/
def Port.toNat : Port → Nat
  | .A => 0 | .B => 1

/-- The code of a cause of a STATE-CHANGE record (section 11.9.5). -/
def ChangeCause.toNat : ChangeCause → Nat
  | .slip => 0 | .errors => 1 | .sweepStart => 2 | .probes => 3 | .controller => 4 | .sourceSetting => 5
  | .tolerance => 6 | .strobe => 7

/-- The code of a cause of a CONTROL-MOVED record (section 11.9.5). -/
def MoveCause.toNat : MoveCause → Nat
  | .tried => 0 | .released => 1 | .forced => 2 | .portReset => 3

/-- The code of a refusal reason (section 11.9.6). -/
def RefuseReason.toNat : RefuseReason → Nat
  | .badFrame => 0 | .lineQuiet => 1 | .badKind => 2 | .unknown => 3 | .suspended => 4 | .kindNotAllowed => 5
  | .queueFull => 6 | .noCredit => 7

/-- The code of a part state: 0 STARTING, 1 READY (section 11.9.6). -/
def PartState.toNat : PartState → Nat
  | .starting => 0 | .ready => 1

/-- The marks of a page list entry (section 11.9.3); a byte over 3 is an open value (log 13). -/
def pageMark (b : Byte) : Fin 4 :=
  if h : b.toNat < 4 then ⟨b.toNat, h⟩ else Config.pageMarkByte b

/-- Whether a controller status byte says ON-AIR: 0 is OFF-AIR, 1 is ON-AIR; another byte is an open value (log 12). -/
def statusOnAir (b : Byte) : Bool :=
  if b = 0 then false else if b = 1 then true else Config.statusByte b

/-- The eight zones, and the eight lines, in ascending order. -/
def all8 : List (Fin 8) := [0, 1, 2, 3, 4, 5, 6, 7]

/-- The sixteen sites in ascending order. -/
def all16 : List (Fin 16) := [0, 1, 2, 3, 4, 5, 6, 7, 8, 9, 10, 11, 12, 13, 14, 15]

/-- The set of one zone. -/
def zoneBit (z : Fin 8) : ZoneSet :=
  1#8 <<< z.val

/-- The zones of a set, ascending. -/
def zonesOf (zs : ZoneSet) : List (Fin 8) :=
  all8.filter fun z => zs.getLsbD z.val

/-- How many zones a set holds. -/
def zoneCount (zs : ZoneSet) : Nat :=
  (zonesOf zs).length

/-- A class is lower than another when its code is greater (R89). -/
def MsgClass.lower (c d : MsgClass) : Bool :=
  d.toNat < c.toNat

end Sys2Proof.Machine
end

