-- ==== Sys2Proof/Machine/Ops.lean ====
section
/-! DEFINITION. The named operations every chapter shares: window arithmetic, wake windows, the accessors of ports, lines,
zones, slots and messages, notices, fault capture, the report queues and the control claim. -/

namespace Sys2Proof.Machine

/-- What a command answers. -/
abbrev Out := Host.Outcome State Fault Refusal

/-! ### Windows and time -/

/-- Window count `x` is later than `y`: their difference modulo 2^32, read as signed, is positive (section 3.2). -/
def winLater (x y : Win) : Bool :=
  decide (0 < (x - y).toInt)

/-- The stride of a wake class (section 3.3). -/
def stride (w : Fin 4) : Nat :=
  96 / 2 ^ w.val

/-- The first wake window at or after `x` (R4): `d` windows on, where `d = (h - (x mod 96)) mod stride`. DESIGN CHOICE
(log 42): across the wrap of the window count, R4's sum modulo 2^32 is followed and not section 3.3. -/
def firstWake (home : Nat) (wake : Fin 4) (x : Win) : Win :=
  x + BitVec.ofInt 32 (((home : Int) - ((x.toNat % 96 : Nat) : Int)) % (stride wake : Int))

/-- The `m`-th wake window at or after `x` (R4). -/
def nthWake (home : Nat) (wake : Fin 4) (m : Nat) (x : Win) : Win :=
  firstWake home wake x + BitVec.ofNat 32 ((m - 1) * stride wake)

/-- The subscriber's first wake window at or after `x`, under its schedule as it stands (R4). -/
def Subscriber.wakeAt (sub : Subscriber) (x : Win) : Win :=
  firstWake sub.home sub.wake x

/-- The subscriber's next wake window after `w` (R4). -/
def Subscriber.wakeAfter (sub : Subscriber) (w : Win) : Win :=
  sub.wakeAt (w + 1)

/-- The window count now (section 3.2). -/
def State.now (s : State) : Win :=
  s.clock.now

/-- Lets `d` milliseconds pass: the millisecond count and the window timer run on (R70). -/
def State.passMs (s : State) (d : Nat) : State :=
  { s with ms := s.ms + d, clock.timer := s.clock.timer + d }

/-- Lets time pass until the millisecond count is at least `t`. -/
def State.passTo (s : State) (t : Nat) : State :=
  s.passMs (t - s.ms)

/-! ### Accessors -/

/-- A port unit. -/
def State.port (s : State) : Port → PortUnit
  | .A => s.portA
  | .B => s.portB

/-- Changes a port unit. -/
def State.modPort (s : State) (p : Port) (f : PortUnit → PortUnit) : State :=
  match p with
  | .A => { s with portA := f s.portA }
  | .B => { s with portB := f s.portB }

/-- An entry line. -/
def State.line (s : State) (l : Fin 8) : Line :=
  s.lines[l]

/-- Changes an entry line. -/
def State.modLine (s : State) (l : Fin 8) (f : Line → Line) : State :=
  { s with lines := s.lines.set l (f s.lines[l]) }

/-- A zone link. -/
def State.zone (s : State) (z : Fin 8) : Zone :=
  s.zones[z]

/-- Changes a zone link. -/
def State.modZone (s : State) (z : Fin 8) (f : Zone → Zone) : State :=
  { s with zones := s.zones.set z (f s.zones[z]) }

/-- Changes every zone link. -/
def State.modZones (s : State) (f : Fin 8 → Zone → Zone) : State :=
  { s with zones := Vector.ofFn fun z => f z s.zones[z] }

/-- A reply link. -/
def State.replyLink (s : State) (k : Fin 4) : ReplyLink :=
  s.replyLinks[k]

/-- Changes a reply link. -/
def State.modReplyLink (s : State) (k : Fin 4) (f : ReplyLink → ReplyLink) : State :=
  { s with replyLinks := s.replyLinks.set k (f s.replyLinks[k]) }

/-- A slot of the subscriber table; an unlisted slot is VACANT with final count 0 (R1). -/
def State.slot (s : State) (n : Nat) : Slot :=
  (Assoc.get? n s.slots).getD { sub := none, finalCount := 0 }

/-- The subscriber of a slot, `none` when the slot is VACANT. -/
def State.sub? (s : State) (n : Nat) : Option Subscriber :=
  (s.slot n).sub

/-- Writes a slot; a VACANT slot with final count 0 is not listed. -/
def State.setSlot (s : State) (n : Nat) (v : Slot) : State :=
  { s with slots := if v = { sub := none, finalCount := 0 } then Assoc.erase n s.slots else Assoc.put n v s.slots }

/-- Changes the subscriber of a slot, if there is one. -/
def State.modSub (s : State) (n : Nat) (f : Subscriber → Subscriber) : State :=
  match s.sub? n with
  | none => s
  | some sub => s.setSlot n { s.slot n with sub := some (f sub) }

/-- The message record in use that holds a serial (R43). -/
def State.msg? (s : State) (serial : Nat) : Option Message :=
  Assoc.get? serial s.msgs

/-- Changes the message record that holds a serial, if there is one. -/
def State.modMsg (s : State) (serial : Nat) (f : Message → Message) : State :=
  match s.msg? serial with
  | none => s
  | some m => { s with msgs := Assoc.put serial (f m) s.msgs }

/-- The plan of a number. -/
def State.plan (s : State) (n : Fin 16) : Plan :=
  s.plans[n]

/-- The messages of a slot's queue, in queue order (R32). -/
def State.queueMsgs (s : State) (n : Nat) : List Message :=
  match s.sub? n with
  | none => []
  | some sub => sub.queue.filterMap s.msg?

/-- The subscriber has a message in state LOADED or SENT (R15, R126, R129, R132). -/
def State.inFlight (s : State) (n : Nat) : Bool :=
  (s.queueMsgs n).any fun m => m.state = .loaded ∨ m.state = .sent

/-! ### Notices and faults -/

/-- Raises a notice at a port (R183). -/
def raise (n : Notice) (p : Port) (s : State) : State :=
  s.modPort p fun u => { u with notice := u.notice ||| n.mask }

/-- Raises a notice at both ports. -/
def raiseBoth (n : Notice) (s : State) : State :=
  raise n .B (raise n .A s)

/-- The interrupt line of a port: asserted while a pending bit is enabled (R183). -/
def PortUnit.interrupt (u : PortUnit) : Bool :=
  decide (u.notice &&& u.enable ≠ 0)

/-- Captures a fault at a port (R188). -/
def capture (p : Port) (kind : FaultKind) (index : Nat) (s : State) : State :=
  if (s.port p).locked then
    s.modPort p fun u => { u with faultCount := satAdd 255 u.faultCount 1 }
  else
    raise .fault p (s.modPort p fun u =>
      { u with faultWord := some { kind := kind, index := index, number := u.nextNumber }, faultCount := 1,
               locked := true })

/-! ### Report queues (R175 to R177) -/

/-- An accounting item: OUTCOME reference, PERIOD-TOTAL or PERIOD-END (R175). -/
def Item.isAccounting : Item → Bool
  | .outcome _ => true
  | .periodTotal _ => true
  | .periodEnd _ _ _ => true
  | .delivery _ => false
  | .stateChange _ => false
  | .controlMoved _ _ _ _ => false

/-- A non-message item: a record held whole (section 10.4 of the manual). -/
def Item.isRecord : Item → Bool
  | .outcome _ => false
  | .delivery _ => false
  | .periodTotal _ => true
  | .periodEnd _ _ _ => true
  | .stateChange _ => true
  | .controlMoved _ _ _ _ => true

/-- The non-message backlog of a port's report queue (R176). -/
def PortUnit.backlog (u : PortUnit) : Nat :=
  u.queue.countP Item.isRecord

/-- Emits a STATE-CHANGE or CONTROL-MOVED item into one port's queue, or drops it when the backlog is 64 or more (R176). -/
def emitAt (it : Item) (p : Port) (s : State) : State :=
  s.modPort p fun u =>
    if u.backlog < 64 then { u with queue := u.queue ++ [it] }
    else { u with dropped := satAdd 65535 u.dropped 1, gap := true }

/-- Emits one copy to each port (R175). -/
def emitBoth (it : Item) (s : State) : State :=
  emitAt it .B (emitAt it .A s)

/-- Appends an item to a port's report queue without regard to the backlog. -/
def enqueue (it : Item) (p : Port) (s : State) : State :=
  s.modPort p fun u => { u with queue := u.queue ++ [it] }

/-- Emits an accounting item into the holder's queue, or the unheld queue while no port holds control (R175). -/
def emitAccounting (it : Item) (s : State) : State :=
  match s.control.holder with
  | some p => enqueue it p s
  | none => { s with unheld := s.unheld ++ [it] }

/-- Writes a STATE-CHANGE record to both queues and raises its notice at both ports (R46, R78, R100, R176). -/
def stateChange (r : StateChange) (n : Notice) (s : State) : State :=
  raiseBoth n (emitBoth (.stateChange r) s)

/-! ### The control claim (R177, R187) -/

/-- The try flag of a port. -/
def Control.tryFlag (c : Control) : Port → Bool
  | .A => c.tryA
  | .B => c.tryB

/-- Sets or clears the try flag of a port. -/
def Control.setTry (c : Control) (p : Port) (v : Bool) : Control :=
  match p with
  | .A => { c with tryA := v }
  | .B => { c with tryB := v }

/-- The last peer value a port received. -/
def Control.peer (c : Control) : Port → BitVec 16
  | .A => c.peerA
  | .B => c.peerB

/-- Sets the last peer value a port received. -/
def Control.setPeer (c : Control) (p : Port) (v : BitVec 16) : Control :=
  match p with
  | .A => { c with peerA := v }
  | .B => { c with peerB := v }

/-- Takes the accounting items out of the old holder's queue, or the whole unheld queue where no port held control, and
appends them in their order to the new holder's queue or the unheld queue (R177). -/
def moveAccounting (old new : Option Port) (s : State) : State :=
  let taken := match old with
    | some p => (s.port p).queue.filter Item.isAccounting
    | none => s.unheld
  let s := match old with
    | some p => s.modPort p fun u => { u with queue := u.queue.filter fun it => !it.isAccounting }
    | none => { s with unheld := [] }
  match new with
  | some p => s.modPort p fun u => { u with queue := u.queue ++ taken }
  | none => { s with unheld := s.unheld ++ taken }

/-- A move of control (R187): the accounting items move, then CONTROL-MOVED is emitted to both ports and CONTROL is
raised at both. Where the holder does not change there is no move. -/
def moveControl (new : Option Port) (cause : MoveCause) (s : State) : State :=
  let old := s.control.holder
  if old = new then s
  else
    raiseBoth .control (emitBoth (.controlMoved old new cause s.now)
      (moveAccounting old new { s with control.holder := new }))

/-- A TRY write (R187). -/
def controlTry (p : Port) (s : State) : State :=
  let s := { s with control := s.control.setTry p true }
  match s.control.holder with
  | none => moveControl (some p) .tried s
  | some _ => s

/-- A RELEASE write, or the release of a port reset (R187, R190). -/
def controlRelease (p : Port) (cause : MoveCause) (s : State) : State :=
  if s.control.holder = some p then
    let next := if s.control.tryFlag p.other then some p.other else none
    moveControl next cause { s with control := { s.control with tryA := false, tryB := false } }
  else { s with control := s.control.setTry p false }

/-- A FORCE write (R187). -/
def controlForce (p : Port) (s : State) : State :=
  if s.control.holder = some p then s
  else moveControl (some p) .forced { s with control := { s.control with tryA := false, tryB := false } }

/-- A PEER write (R187). -/
def controlPeer (p : Port) (v : BitVec 16) (s : State) : State :=
  raise .peer p.other { s with control := s.control.setPeer p.other v }

/-! ### The period walk's pause (R173) -/

/-- The pause reason of the walk (R171, R173). -/
inductive Pause where
  | none | noControl | backlog
  deriving DecidableEq, Repr

/-- The code of a pause reason in the header and in PERIOD STATUS (section 11.9.2). -/
def Pause.toNat : Pause → Nat
  | .none => 0 | .noControl => 1 | .backlog => 2

/-- The pause conditions as they stand: no holder, or 64 non-message items in the holder's queue; none while no walk is
running (R171, R173). -/
def State.pause (s : State) : Pause :=
  if s.walk.running then
    match s.control.holder with
    | none => .noControl
    | some p => if 64 ≤ (s.port p).backlog then .backlog else .none
  else .none

/-! ### Clearing a placed control item, and the cool-down list (R8, R11, R95) -/

/-- The item is the control item of this slot, kind and tag. -/
def LoadItem.isControl (k : ControlKind) (slot tag : Nat) : LoadItem → Bool
  | .control k' slot' _ tag' => decide (k' = k ∧ slot' = slot ∧ tag' = tag)
  | .message _ _ _ _ _ _ _ _ => false

/-- The item carries the message of this serial. -/
def LoadItem.isMessage (serial : Nat) : LoadItem → Bool
  | .message serial' _ _ _ _ _ _ _ => decide (serial' = serial)
  | .control _ _ _ _ => false

/-- The cells of an item (R83). -/
def LoadItem.cells : LoadItem → Nat
  | .message _ _ _ _ _ _ _ cells => cells
  | .control _ _ _ _ => 3

/-- Takes the items that satisfy `f` out of a load that awaits transfer; the freed cells stay empty (R94, R95). -/
def Load.remove (f : LoadItem → Bool) (controls : Bool) (w : Win) (ld : Load) : Load :=
  if ld.window = w ∧ ld.xfer = .awaiting then
    let gone := ld.items.filter f
    { ld with items := ld.items.filter fun it => !f it, cells := ld.cells - (gone.map LoadItem.cells).sum,
              controls := if controls then ld.controls - gone.length else ld.controls }
  else ld

/-- Takes an item out of every load of window `w` that awaits transfer, in every zone (R94, R95). -/
def removeFromLoads (f : LoadItem → Bool) (controls : Bool) (w : Win) (s : State) : State :=
  s.modZones fun _ zn => { zn with held := zn.held.map (Load.remove f controls w) }

/-- Takes a placed pending item out of the loads of its due window that await transfer (R95). -/
def unplace (slot : Nat) (pd : Pending) (s : State) : State :=
  if pd.placed then removeFromLoads (LoadItem.isControl pd.kind slot pd.tag) true pd.due s else s

/-- Gives the cool-down entry of a tag an end window (R11, R130). -/
def coolSet (tag : Nat) (w : Win) (l : List (Nat × Option Win)) : List (Nat × Option Win) :=
  l.map fun e => if e.1 = tag then (e.1, some w) else e

/-- The end of a cool-down that begins now: now + ack delay + merge span, with the settings in force (R8, R11). -/
def State.coolEnd (s : State) (w : Win) : Win :=
  w + BitVec.ofNat 32 s.settings.ackDelay + BitVec.ofNat 32 s.settings.mergeSpan

/-- Drops a pending TAG-OFFER of a slot, with its placed copies (R8, R95, R119). -/
def dropOffer (slot : Nat) (s : State) : State :=
  match s.sub? slot with
  | none => s
  | some sub =>
    match sub.pending with
    | some pd =>
      if pd.kind = .offer then (unplace slot pd s).modSub slot fun x => { x with pending := none } else s
    | none => s

/-- Drops a pending TAG-WITHDRAW of a slot and gives the withdrawn tag's cool-down entry its end window (R11). -/
def dropWithdraw (slot : Nat) (s : State) : State :=
  match s.sub? slot with
  | none => s
  | some sub =>
    match sub.pending with
    | some pd =>
      if pd.kind = .withdraw then
        let s := (unplace slot pd s).modSub slot fun x => { x with pending := none }
        { s with coolDown := coolSet pd.tag (s.coolEnd s.now) s.coolDown }
      else s
    | none => s

/-- Removes the offer wait entry of a slot (R128). -/
def dropOfferWait (slot : Nat) (s : State) : State :=
  { s with offerWait := s.offerWait.filter fun e => e.slot != slot }

/-- A tag release (R8): the tag leaves the map and rests in cool-down with an end window; the tag fields are reset, a
pending TAG-OFFER is dropped and the offer wait entry goes (R128). -/
def tagRelease (slot : Nat) (s : State) : State :=
  match s.sub? slot with
  | none => s
  | some sub =>
    let s := dropOffer slot s
    match sub.tag with
    | none => s.modSub slot fun x => { x with offers := 0 }
    | some tag =>
      let s := dropOfferWait slot s
      let s := { s with tags := Assoc.erase tag s.tags, coolDown := s.coolDown ++ [(tag, some (s.coolEnd s.now))] }
      s.modSub slot fun x => { x with tag := none, tagState := .none, offers := 0 }

end Sys2Proof.Machine
end

