-- ==== Sys2Proof/Machine/Header.lean ====
section
/-! DEFINITION. What a host sees without a slip: the registers it reads, and the header of its exchange area, written by
the port unit (R184, section 11.9.1, section 11.9.2). `finish` ends every command's event with the header writes. -/

namespace Sys2Proof.Machine

/-- SCAN as the host reads it: bit 0 part READY, bit 1 this port holds control (section 11.9.1). -/
def readScan (p : Port) (s : State) : Word :=
  (if s.part = .ready then 1#32 else 0#32) ||| (if s.control.holder = some p then 2#32 else 0#32)

/-- CONTROL as the host reads it: bits 0–15 last peer value received, bits 16–17 holder, bit 18 try flag A, bit 19 try
flag B (section 11.9.1). -/
def readControl (p : Port) (s : State) : Word :=
  (s.control.peer p).setWidth 32 ||| (BitVec.ofNat 32 (holderCode s.control.holder) <<< 16) |||
    (if s.control.tryA then 1#32 <<< 18 else 0#32) ||| (if s.control.tryB then 1#32 <<< 19 else 0#32)

/-- What a host reads from each register of its port (R182, section 11.9.1). DESIGN CHOICE (log 51): the bits that section
11.9.1 does not name read as 0. -/
def readRegister (p : Port) (r : Reg) (s : State) : Word :=
  match r with
  | .area => (s.port p).areaReg
  | .scan => readScan p s
  | .notice => (s.port p).notice.setWidth 32
  | .noticeEnable => (s.port p).enable.setWidth 32
  | .control => readControl p s

/-- The two bytes of the last build of a zone: items, then cells, 0xFF in both for absent (section 11.9.2). -/
def lastBuildBytes : Option (Nat × Nat) → List Byte
  | none => [0xFF, 0xFF]
  | some (cells, items) => [BitVec.ofNat 8 items, BitVec.ofNat 8 cells]

/-- The counters of a line, at offset `o` (section 11.9.2). -/
def lineFields (o : Nat) (ln : Line) : List (Nat × List Byte) :=
  [(o, leBytes 1 ln.state.toNat), (o + 1, leBytes 1 ln.errorsSweep), (o + 2, leBytes 2 ln.taken),
   (o + 4, leBytes 2 ln.busy), (o + 6, leBytes 2 ln.errorTotal)]

/-- The counters of a zone, at offset `o` (section 11.9.2). -/
def zoneFields (o : Nat) (zn : Zone) : List (Nat × List Byte) :=
  [(o, leBytes 1 zn.link.toNat),
   (o + 1, leBytes 1 ((if zn.inService then 1 else 0) + (if zn.onAir then 2 else 0))),
   (o + 2, leBytes 1 zn.errorsSweep), (o + 3, lastBuildBytes zn.lastBuild), (o + 5, [0]),
   (o + 6, leBytes 2 zn.errorTotal), (o + 8, leBytes 2 zn.loadsOnAir), (o + 10, leBytes 2 zn.loadsMissed),
   (o + 12, leBytes 2 zn.resends), (o + 14, leBytes 2 zn.strayAnswers)]

/-- The fault fields of the header (R188, section 11.9.2). DESIGN CHOICE (log 50): the index and the journal number are 0
while the fault word is none. -/
def faultFields (u : PortUnit) : List (Nat × List Byte) :=
  match u.faultWord with
  | none => [(0x08, [0]), (0x09, leBytes 1 u.faultCount), (0x0A, [0, 0]), (0x0C, [0, 0, 0, 0])]
  | some f => [(0x08, leBytes 1 f.kind.toNat), (0x09, leBytes 1 u.faultCount), (0x0A, leBytes 2 f.index),
               (0x0C, leBytes 4 f.number.toNat)]

/-- The identification (R184, section 11.9.2): vendor code, part code and revision; the revision is an open value
(log 10). -/
def identFields : List (Nat × List Byte) :=
  [(0x00, leBytes 4 0x4E53), (0x04, leBytes 2 410), (0x06, leBytes 2 Config.revision.toNat)]

/-- Every other field of the header with its offset from the area base (section 11.9.2). DESIGN CHOICE (log 52): the bits
that no entry of a field names are 0. -/
def statusFields (p : Port) (s : State) : List (Nat × List Byte) :=
  let u := s.port p
  faultFields u ++
  [(0x10, leBytes 1 u.scanPos.val),
   (0x11, leBytes 1 ((if s.part = .ready then 1 else 0) + (if s.control.holder = some p then 2 else 0) +
      (if u.stalled then 4 else 0))),
   (0x12, leBytes 2 u.dropped), (0x14, leBytes 4 u.nextNumber.toNat), (0x18, leBytes 4 s.clock.now.toNat),
   (0x1C, leBytes 2 s.clock.length), (0x1E, leBytes 1 s.clock.state.toNat), (0x1F, [s.globalPeriod])] ++
  (all8.flatMap fun l => lineFields (0x20 + 8 * l.val) (s.line l)) ++
  (all8.flatMap fun z => zoneFields (0x60 + 16 * z.val) (s.zone z)) ++
  [(0xE0, leBytes 2 s.clock.strobesHeard), (0xE2, leBytes 2 s.clock.early), (0xE4, leBytes 2 s.clock.fallbacks),
   (0xE6, leBytes 2 s.deferrals), (0xE8, leBytes 2 s.promotions), (0xEA, leBytes 2 s.replyCounts.strays),
   (0xEC, leBytes 2 s.replyCounts.duplicates), (0xEE, leBytes 2 s.replyCounts.earlyCloses),
   (0xF0, leBytes 2 s.replyCounts.reclaims), (0xF2, leBytes 2 s.replyCounts.noTag), (0xF4, leBytes 2 s.merge.length),
   (0xF6, leBytes 2 s.tagFree.length), (0xF8, leBytes 2 s.coolDown.length), (0xFA, leBytes 2 s.offerWait.length),
   (0xFC, leBytes 2 s.band.val), (0xFE, leBytes 2 s.pause.toNat)] ++
  ([0, 1, 2, 3] : List (Fin 4)).flatMap (fun k =>
    [(0x200 + 4 * k.val, leBytes 2 (s.replyLink k).framesTaken),
     (0x202 + 4 * k.val, leBytes 2 (s.replyLink k).badFrames)]) ++
  [(0x210, leBytes 2 s.retryCounts.attemptsOnAir), (0x212, leBytes 2 s.retryCounts.missedReturns),
   (0x214, leBytes 2 s.retryCounts.retries), (0x216, leBytes 2 s.retryCounts.holds),
   (0x218, leBytes 2 s.retryCounts.releases), (0x21A, leBytes 2 s.retryCounts.exhaustions),
   (0x21C, leBytes 4 ((if s.walk.running then 1 else 0) + 256 * s.walk.position)), (0x220, leBytes 4 s.walk.count)]

/-- The whole header: the identification and every other field (R184). -/
def headerFields (p : Port) (s : State) : List (Nat × List Byte) :=
  identFields ++ statusFields p s

/-- The fields of `new` that differ from those of `old`, field by field. -/
def changedFields (old new : List (Nat × List Byte)) : List (Nat × List Byte) :=
  ((old.zip new).filter fun e => e.1 != e.2).map Prod.snd

/-- Writes header fields into host memory at an area base. -/
def writeFields (base : Nat) (fields : List (Nat × List Byte)) (m : List Host.Cell) : List Host.Cell :=
  fields.foldl (fun m f => memWrite (base + f.1) f.2 m) m

/-- The header write of one port in the event that took the part from `s` to `s'` (R184): the fields that changed, or
the whole header; a bus error captures AREA-WRITE-ERROR with index 0 (R188). Without an area nothing is written. DESIGN
CHOICE (log 47): the fault fields that this capture changes are not written in the same event. -/
def syncHeader (p : Port) (full err : Bool) (s s' : State) : State :=
  match (s'.port p).area with
  | none => s'
  | some base =>
    let fields := if full then headerFields p s' else changedFields (statusFields p s) (statusFields p s')
    if fields = [] then s'
    else if err then capture p .areaWrite 0 s'
    else s'.modPort p fun u => { u with hostMem := writeFields base fields u.hostMem }

/-- The end of an event that took the part from `s` to `s'`: each port unit writes the header fields that changed, the
ports in `full` their whole header (R184). -/
def finishFull (fullA fullB : Bool) (b : Bus) (s s' : State) : Out :=
  .next (syncHeader .B fullB b.headerB s (syncHeader .A fullA b.headerA s s'))

/-- The end of an ordinary event. -/
def finish (b : Bus) (s s' : State) : Out :=
  finishFull false false b s s'

end Sys2Proof.Machine
end

