-- ==== Sys2Proof/Machine/Rating.lean ====
section
/-! DEFINITION. Rating (chapter 9): the seven stages in exact integers, the charge request and the estimate request. -/

namespace Sys2Proof.Machine

/-- The inputs of a rating (R152). -/
structure RateInput where
  cells       : Nat
  allowance   : Nat
  base        : Nat
  cell        : Nat
  band        : Nat
  surcharge   : Nat
  search      : Nat
  extra       : Nat
  transmitted : Bool
  delivered   : Bool
  undelivered : Nat
  cap         : Nat
  deriving DecidableEq, Repr

/-- Stage 1: the chargeable cells (R155). -/
def chargeable (i : RateInput) : Nat :=
  i.cells - i.allowance

/-- Stage 2: raw (R156). -/
def rawCharge (i : RateInput) : Nat :=
  if chargeable i = 0 then 0 else i.base + i.cell * chargeable i

/-- Stage 3: banded, rounded to the nearest unit with a half upward (R156). -/
def bandedCharge (i : RateInput) : Nat :=
  (rawCharge i * i.band + 32) / 64

/-- Stage 4: prioritised (R156). -/
def prioritised (i : RateInput) : Nat :=
  bandedCharge i + (bandedCharge i * i.surcharge + 50) / 100

/-- Stage 5: total, with the search surcharge (R157). -/
def totalCharge (i : RateInput) : Nat :=
  prioritised i + i.search * i.extra

/-- Stages 6 and 7: the factor of the disposition, then the cap (R158, R159). -/
def chargeOf (i : RateInput) : Nat :=
  let r := if i.transmitted then
      if i.delivered then totalCharge i else (totalCharge i * i.undelivered + 50) / 100
    else 0
  if i.cap = 0 then r else min r i.cap

/-- The allowance used after stage 6 (R155, R158). -/
def allowanceUsedOf (i : RateInput) : Nat :=
  if i.transmitted then min i.cells i.allowance else 0

/-- The base and cell rate of a subscriber: its own when rate override is yes, else the plan's (R153). -/
def ratesOf (sub : Subscriber) (pl : Plan) : Nat × Nat :=
  if sub.override then (sub.ownBase, sub.ownCell) else (pl.base, pl.cell)

/-- The surcharge of a class (R153, R168). -/
def surchargeOf (pl : Plan) (c : MsgClass) : Nat :=
  match c with
  | .urgent => pl.surcharges[0]
  | .high => pl.surcharges[1]
  | .normal => pl.surcharges[2]
  | .routine => pl.surcharges[3]

/-- The extra zone-sends (R154). -/
def extraZoneSends (sub : Subscriber) (m : Message) : Nat :=
  if sub.twoWay = false ∨ m.firstZones = 0 then 0 else min 255 (m.zoneSends - m.firstZones)

/-- The inputs of the charge request for a message that ends with disposition `d` (R152 to R154). -/
def chargeInput (sub : Subscriber) (pl : Plan) (m : Message) (d : Disposition) : RateInput :=
  { cells := m.cells, allowance := sub.account.allowance, base := (ratesOf sub pl).1, cell := (ratesOf sub pl).2,
    band := pl.bands[m.band], surcharge := surchargeOf pl m.cls, search := pl.search, extra := extraZoneSends sub m,
    transmitted := m.transmitted, delivered := d = .delivered, undelivered := pl.undelivered, cap := pl.cap }

/-- The estimate (R61, R161): the charge with no allowance and no extra zone-sends, transmitted and DELIVERED. -/
def estimateOf (sub : Subscriber) (pl : Plan) (band : Fin 4) (c : MsgClass) (cells : Nat) : Nat :=
  chargeOf
    { cells := cells, allowance := 0, base := (ratesOf sub pl).1, cell := (ratesOf sub pl).2, band := pl.bands[band],
      surcharge := surchargeOf pl c, search := pl.search, extra := 0, transmitted := true, delivered := true,
      undelivered := pl.undelivered, cap := pl.cap }

/-- The cells of a message of this kind and text length (section 3.5). -/
def cellsOf (k : MsgKind) (len : Nat) : Nat :=
  match k with
  | .tone => 2
  | .numeric => 2 + (len + 9) / 10
  | .text => 2 + (len + 4) / 5

/-- The text blocks of a text of this length (section 3.5, R26). -/
def blocksOf (len : Nat) : Nat :=
  (len + 31) / 32

end Sys2Proof.Machine
end

