-- ==== Sys2Proof/Machine/Store.lean ====
section
/-! DEFINITION. The message store's shared operations (chapter 2) and the posting of charges (R165, R167): re-dues,
becoming final, freeing, and the trim of attempts under a lowered retry limit (R138). -/

namespace Sys2Proof.Machine

/-! ### The text of a message (R26) -/

/-- The chain of text blocks that holds a text: its characters in order, 32 to a block, the unused bytes of the last block
0 (R26). -/
def chainOf (text : List Byte) : List TextBlock :=
  (List.range (blocksOf text.length)).map fun k => Vector.ofFn fun i : Fin 32 => text.getD (32 * k + i.val) 0

/-- The text that a message's chain holds: the first `length` bytes of its blocks (R26). -/
def Message.text (m : Message) : List Byte :=
  (m.blocks.flatMap Vector.toList).take m.length

/-! ### Due windows, becoming final and freeing -/

/-- Takes a message out of the due calendar and makes its due window absent (R34). -/
def leaveDue (serial : Nat) (s : State) : State :=
  match s.msg? serial with
  | none => s
  | some m =>
    match m.due with
    | none => s
    | some w =>
      { s with dueCal := calRemove w serial s.dueCal }.modMsg serial fun x => { x with due := none }

/-- A re-due, or an entry into a state with a due window: the serial leaves the list it stands in, and is appended to
the tail of the list of `w` (R34). -/
def redue (serial : Nat) (w : Win) (s : State) : State :=
  let s := leaveDue serial s
  match s.msg? serial with
  | none => s
  | some _ => { s with dueCal := calAdd w serial s.dueCal }.modMsg serial fun x => { x with due := some w }

/-- Posts a charge and the allowance used on an account under a plan (R165, R167). -/
def post (pl : Plan) (estimate : Option Nat) (charge used : Nat) (a : Account) : Account :=
  let a := { a with committed := a.committed - estimate.getD 0, allowance := a.allowance - used }
  let a := match pl.kind with
    | .prepaid => { a with balance := satBalance (a.balance - charge) }
    | .postpaid =>
      let usage := satAdd 4294967295 a.usage charge
      { a with usage := usage,
               postpaid := if pl.ceiling ≠ 0 ∧ pl.ceiling ≤ usage then .capped else a.postpaid }
  { a with periodCharge := satAdd 4294967295 a.periodCharge charge,
           periodCount := satAdd 65535 a.periodCount 1,
           periodAllowance := satAdd 4294967295 a.periodAllowance used }

/-- DELIVERY is owed when the message came from a port that does not hold control (R41). -/
def owesDelivery (holder : Option Port) : Origin → Bool
  | .port p => decide (holder ≠ some p)
  | .line _ => false

/-- Places the report items of a message that has become final (R40 step 6, R41, R175). -/
def emitReports (serial : Nat) (origin : Origin) (s : State) : State :=
  let s' := emitAccounting (.outcome serial) s
  match origin with
  | .port p => if s.control.holder = some p then s' else enqueue (.delivery serial) p s'
  | .line _ => s'

/-- Makes a non-final message FINAL with disposition `d`, by the six steps of R40; a message that is final already is
left as it is. -/
def finalize (serial : Nat) (d : Disposition) (s : State) : State :=
  match s.msg? serial with
  | none => s
  | some m =>
    if m.state = .final then s
    else
      -- step 1: calendars; steps 2 and 3: the queue and the loads
      let s := leaveDue serial s
      let s := { s with expiryCal := calRemove m.expiry serial s.expiryCal }
      let s := s.modSub m.slot fun x => { x with queue := x.queue.filter (· != serial) }
      let s := if m.state = .loaded then
          match m.due with
          | some w => removeFromLoads (LoadItem.isMessage serial) false w s
          | none => s
        else s
      -- step 4: rating and posting
      let (charge, used) := match s.sub? m.slot with
        | none => (0, 0)
        | some sub =>
          let i := chargeInput sub (s.plan sub.plan) m d
          (chargeOf i, allowanceUsedOf i)
      let s := s.modSub m.slot fun x => { x with account := post (s.plan x.plan) m.estimate charge used x.account }
      -- step 5: the final count
      let s := s.setSlot m.slot { s.slot m.slot with finalCount := (s.slot m.slot).finalCount + 1 }
      -- the record as it stands final, and step 6: the reports
      let s := s.modMsg serial fun x =>
        { x with state := .final, disposition := some d, due := none, deadline := none, charge := some charge,
                 allowanceUsed := some used, owesOutcome := true, owesDelivery := owesDelivery s.control.holder m.origin,
                 finalWindow := some s.now }
      emitReports serial m.origin s

/-- Makes each message of a list FINAL in turn, in list order. -/
def finalizeAll (d : Disposition) : List Nat → State → State
  | [], s => s
  | serial :: rest, s => finalizeAll d rest (finalize serial d s)

/-- Frees a record whose reports pending has become empty (R42): its place, all the blocks of its chain (R26), its slot's
final count. -/
def freeRecord (serial : Nat) (s : State) : State :=
  match s.msg? serial with
  | none => s
  | some m =>
    if m.owesOutcome ∨ m.owesDelivery then s
    else
      let s := { s with msgs := Assoc.erase serial s.msgs, freePlaces := s.freePlaces + 1,
                        freeBlocks := s.freeBlocks + m.blocks.length }
      s.setSlot m.slot { s.slot m.slot with finalCount := (s.slot m.slot).finalCount - 1 }

/-- The written report leaves its message's reports pending, and the record is freed when none is left (R42). -/
def reportWritten (it : Item) (s : State) : State :=
  match it with
  | .outcome serial => freeRecord serial (s.modMsg serial fun m => { m with owesOutcome := false })
  | .delivery serial => freeRecord serial (s.modMsg serial fun m => { m with owesDelivery := false })
  | .periodTotal _ => s
  | .periodEnd _ _ _ => s
  | .stateChange _ => s
  | .controlMoved _ _ _ _ => s

/-- Re-dues every WAITING and RETRY-WAIT message of a slot to `w`, in queue order, with the backoff count 0
(R17, R21). -/
def redueWaiting (w : Win) : List Nat → State → State
  | [], s => s
  | serial :: rest, s =>
    match s.msg? serial with
    | none => redueWaiting w rest s
    | some m =>
      if m.state = .waiting ∨ m.state = .retryWait then
        redueWaiting w rest (redue serial w (s.modMsg serial fun x => { x with backoff := 0 }))
      else redueWaiting w rest s

/-- Sets the attempts in round of a non-final message down to the retry limit + 1 (R138). -/
def trimMessage (limit : Nat) (m : Message) : Message :=
  if m.state = .final then m else { m with attempts := min m.attempts (limit + 1) }

/-- Trims the non-final messages of the subscribers that `f` selects (R138). -/
def trimAttempts (f : Nat → Bool) (limit : Nat) (s : State) : State :=
  { s with msgs := s.msgs.map fun e => (e.1, if f e.2.slot then trimMessage limit e.2 else e.2) }

/-- Exhaustion (R143): HELD under a plan that holds on failure, else FINAL UNDELIVERABLE. -/
def exhaust (serial : Nat) (s : State) : State :=
  match s.msg? serial with
  | none => s
  | some m =>
    match s.sub? m.slot with
    | none => s
    | some sub =>
      if (s.plan sub.plan).hold then
        let s := (leaveDue serial s).modMsg serial fun x => { x with state := .held, deadline := none }
        { s with retryCounts.holds := satAdd 65535 s.retryCounts.holds 1 }
      else
        let s := finalize serial .undeliverable s
        { s with retryCounts.exhaustions := satAdd 65535 s.retryCounts.exhaustions 1 }

/-- Releases a HELD message into a new round (R147, R148). -/
def releaseHeld (serial : Nat) (w : Win) (s : State) : State :=
  let s := s.modMsg serial fun x => { x with state := .waiting, round := x.round + 1, attempts := 0, backoff := 0 }
  let s := redue serial w s
  { s with retryCounts.releases := satAdd 65535 s.retryCounts.releases 1 }

/-- A one-way repeat (R141), after a transmission or at a deadline (R142): with repeats left the message returns to
WAITING, else it becomes FINAL DELIVERED. -/
def oneWayRepeat (serial : Nat) (s : State) : State :=
  match s.msg? serial with
  | none => s
  | some m =>
    match s.sub? m.slot with
    | none => s
    | some sub =>
      if 0 < m.repeats then
        redue serial (sub.wakeAt (s.now + 2))
          (s.modMsg serial fun x => { x with repeats := x.repeats - 1, state := .waiting, deadline := none })
      else finalize serial .delivered s

end Sys2Proof.Machine
end

