-- ==== Sys2Proof/Machine/Retry.lean ====
section
/-! DEFINITION. The retry unit (chapter 8): the zone rule, the settling of LOADED messages, deadlines and backoff, ACK,
GAP, release by registration, and the DEADLINE_EXAMINATION command. -/

namespace Sys2Proof.Machine

/-- The neighbours of a set: the zones in the neighbour set of any of its zones (R136, R137). -/
def neighboursOf (st : Settings) (zs : ZoneSet) : ZoneSet :=
  (zonesOf zs).foldl (fun acc z => acc ||| st.neighbours[z]) 0

/-- The attempt zone set before it is intersected with the available zones (R136). -/
def attemptZones (st : Settings) (sub : Subscriber) (attempts : Nat) : ZoneSet :=
  if sub.twoWay then
    match attempts, sub.lastKnown with
    | 0, some lk => lk
    | 1, some lk => (lk ||| neighboursOf st lk) &&& sub.area
    | _, _ => sub.area
  else sub.area

/-- The retry limit that governs a subscriber's two-way messages (R138). -/
def State.retryLimit (s : State) (sub : Subscriber) : Nat :=
  (s.plan sub.plan).retryLimit

/-- A two-way attempt that went on air in window `w` (R139). DESIGN CHOICE (log 45): attempts rise by one also where a
lowered retry limit has left the LOADED message at its limit + 1, which R138 says they never exceed. -/
def twoWayAttempt (serial : Nat) (w : Win) (s : State) : State :=
  let s := (leaveDue serial s).modMsg serial fun x =>
    { x with attempts := x.attempts + 1,
             firstZones := if x.round = 1 ∧ x.attempts = 0 then zoneCount x.sentZones else x.firstZones,
             state := .sent, deadline := some (w + BitVec.ofNat 32 s.settings.ackDelay) }
  { s with retryCounts.attemptsOnAir := satAdd 65535 s.retryCounts.attemptsOnAir 1 }

/-- A LOADED message whose loads were all missed (R140). -/
def missedReturn (serial : Nat) (sub : Subscriber) (s : State) : State :=
  let s := redue serial (sub.wakeAt (s.now + 2)) (s.modMsg serial fun x => { x with state := .waiting })
  { s with retryCounts.missedReturns := satAdd 65535 s.retryCounts.missedReturns 1 }

/-- Settles one message of the list for window `w` after the declaration (R110, R139 to R141). -/
def settleLoaded (w : Win) (serial : Nat) (s : State) : State :=
  match s.msg? serial with
  | none => s
  | some m =>
    if m.state = .loaded then
      match s.sub? m.slot with
      | none => s
      | some sub =>
        if m.sentZones = 0 then missedReturn serial sub s
        else if sub.twoWay then twoWayAttempt serial w s
        else oneWayRepeat serial s
    else s

/-- Settles the messages of a list, in list order (R110). DESIGN CHOICE (log 33): R34 says that the messages of one
subscriber go in queue order; where the two differ, list order decides. -/
def settleAll (w : Win) : List Nat → State → State
  | [], s => s
  | serial :: rest, s => settleAll w rest (settleLoaded w serial s)

/-- The `m` of the backoff: 1, 2, 4, then 8 (R142). -/
def backoffStep (backoff : Nat) : Nat :=
  min (2 ^ (backoff - 1)) 8

/-- A further attempt after a passed deadline (R142). -/
def furtherAttempt (serial : Nat) (sub : Subscriber) (m : Message) (s : State) : State :=
  let k := satAdd 7 m.backoff 1
  let s := s.modMsg serial fun x => { x with backoff := k, state := .retryWait, deadline := none }
  let s := redue serial (nthWake sub.home sub.wake (backoffStep k) (s.now + 2)) s
  { s with retryCounts.retries := satAdd 65535 s.retryCounts.retries 1 }

/-- The deadline of a message has passed: it is SENT and its deadline window is earlier than now (R142). -/
def Message.overdue (now : Win) (m : Message) : Bool :=
  match m.state, m.deadline with
  | .sent, some d => winLater now d
  | _, _ => false

/-- Examines one message (R142): nothing unless its deadline has passed. -/
def examineDeadline (serial : Nat) (s : State) : State :=
  match s.msg? serial with
  | none => s
  | some m =>
    if m.overdue s.now then
      match s.sub? m.slot with
      | none => s
      | some sub =>
        if sub.twoWay then
          if m.attempts < s.retryLimit sub + 1 then furtherAttempt serial sub m s else exhaust serial s
        else oneWayRepeat serial s
    else s

/-- Examines the messages of a list, in list order. -/
def examineAll : List Nat → State → State
  | [], s => s
  | serial :: rest, s => examineAll rest (examineDeadline serial s)

/-- Examines the messages of each slot of a list, each subscriber's in queue order (R142). -/
def examineSlots : List Nat → State → State
  | [], s => s
  | n :: rest, s => examineSlots rest (examineAll (((s.sub? n).map Subscriber.queue).getD []) s)

/-- DEADLINE_EXAMINATION (R142): every SENT message whose deadline window is earlier than now. The order between
subscribers is not stated: the slots in `order` come first, in that order, and then the others by slot number (log 8). -/
def execDeadlineExamination (order : List Nat) (b : Bus) (s : State) : Out :=
  if s.due.deadline then
    finish b s (examineSlots (order ++ s.slots.map Prod.fst) { s with due.deadline := false })
  else .next s

/-- The non-final message of a slot that carries a sequence (R43). -/
def State.queuedWithSeq (s : State) (slot seq : Nat) : Option Message :=
  (s.queueMsgs slot).find? fun m => m.seq = seq

/-- Counts a reply STRAY (R116). -/
def stray (s : State) : State :=
  { s with replyCounts.strays := satAdd 65535 s.replyCounts.strays 1 }

/-- An ACK handed to the retry unit (R145). -/
def actAck (slot seq : Nat) (s : State) : State :=
  match s.queuedWithSeq slot seq with
  | none => stray s
  | some m =>
    match m.state with
    | .sent => finalize m.serial .delivered s
    | .retryWait => finalize m.serial .delivered s
    | .loaded => finalize m.serial .delivered s
    | .held => finalize m.serial .delivered s
    | .waiting => stray s
    | .final => stray s

/-- A GAP handed to the retry unit (R146). -/
def actGap (slot seq : Nat) (s : State) : State :=
  match s.sub? slot, s.queuedWithSeq slot seq with
  | some sub, some m =>
    if m.state = .sent ∨ m.state = .retryWait then
      let older := ((s.queueMsgs slot).filter fun x =>
        decide ((x.state = .sent ∨ x.state = .retryWait) ∧ x.serial < m.serial)).map Message.serial
      let s := finalizeAll .delivered older s
      if m.attempts < s.retryLimit sub + 1 then
        let s := s.modMsg m.serial fun x => { x with state := .retryWait, deadline := none }
        let s := redue m.serial (sub.wakeAt (s.now + 2)) s
        { s with retryCounts.retries := satAdd 65535 s.retryCounts.retries 1 }
      else exhaust m.serial s
    else stray s
  | _, _ => stray s

/-- Release by registration of one message (R147). -/
def releaseOne (w : Win) (serial : Nat) (s : State) : State :=
  match s.msg? serial with
  | none => s
  | some m =>
    match m.state with
    | .held => if m.round < 4 then releaseHeld serial w s else s
    | .retryWait => redue serial w (s.modMsg serial fun x => { x with backoff := 0 })
    | .waiting => s
    | .loaded => s
    | .sent => s
    | .final => s

/-- Release by registration of the messages of a queue, from the head (R147). -/
def releaseAll (w : Win) : List Nat → State → State
  | [], s => s
  | serial :: rest, s => releaseAll w rest (releaseOne w serial s)

/-- Release by registration of a slot (R147). -/
def releaseByRegistration (slot : Nat) (s : State) : State :=
  match s.sub? slot with
  | none => s
  | some sub => releaseAll (sub.wakeAt (s.now + 2)) sub.queue s

end Sys2Proof.Machine
end

