-- ==== Sys2Proof/Machine/Links.lean ====
section
/-! DEFINITION. The zone links (chapter 6): frames, the send of the next load, errors, probes, controller answers, the
pattern test, and the commands of a zone link. -/

namespace Sys2Proof.Machine

/-! ### Frames on a zone link (section 11.9.6) -/

/-- The bytes of a load item. -/
def itemBytes : LoadItem → List Byte
  | .message serial slot pager seq cls kind text _ =>
    0x00#8 :: (beBytes 2 slot ++ beBytes 3 pager ++ beBytes 4 serial ++
      [BitVec.ofNat 8 seq, BitVec.ofNat 8 cls.toNat, BitVec.ofNat 8 kind.toNat, BitVec.ofNat 8 text.length] ++ text)
  | .control k slot pager tag =>
    (match k with
      | .offer => 0x01#8
      | .withdraw => 0x02#8) :: (beBytes 2 slot ++ beBytes 3 pager ++ beBytes 2 tag)

/-- A frame of a zone link: marker, zone, window count, item count, cells, the body and the CRC-16 over all of it. -/
def linkFrame (marker : Byte) (z : Fin 8) (w : Win) (items cells : Nat) (body : List Byte) : List Byte :=
  let bs := [marker, BitVec.ofNat 8 z.val] ++ beBytes 4 w.toNat ++ [BitVec.ofNat 8 items, BitVec.ofNat 8 cells] ++ body
  bs ++ crc16Bytes bs

/-- The frame of a load (R104). -/
def loadFrame (z : Fin 8) (ld : Load) : List Byte :=
  linkFrame 1 z ld.window ld.items.length ld.cells (ld.items.flatMap itemBytes)

/-- One output of the pattern register and its next contents (R113); stage `i` is bit `i - 1`. -/
def patternStep (r : BitVec 9) : Bool × BitVec 9 :=
  (r.getLsbD 8, (r <<< 1) ||| (if r.getLsbD 4 ^^ r.getLsbD 8 then 1#9 else 0#9))

/-- `n` outputs of the pattern register taken into a byte, the first output as the most significant bit (R113). -/
def patternBits : Nat → BitVec 9 → Byte → Byte × BitVec 9
  | 0, r, acc => (acc, r)
  | n + 1, r, acc =>
    let o := patternStep r
    patternBits n o.2 ((acc <<< 1) ||| (if o.1 then 1#8 else 0#8))

/-- `n` pattern bytes and the register after them (R113). -/
def patternBytes : Nat → BitVec 9 → List Byte × BitVec 9
  | 0, r => ([], r)
  | n + 1, r =>
    let a := patternBits 8 r 0
    let t := patternBytes n a.2
    (a.1 :: t.1, t.2)

/-! ### Sending loads -/

/-- A transfer state change of the load of window `w`. -/
def Zone.setXfer (w : Win) (f : Load → Load) (zn : Zone) : Zone :=
  { zn with held := zn.held.map fun ld => if ld.window = w then f ld else ld }

/-- The load in SENDING, of which there is at most one (R104). -/
def Zone.sending (zn : Zone) : Option Load :=
  zn.held.find? fun ld => ld.xfer = .sending

/-- The load the link would begin to send: the oldest held load in AWAITING whose window has not started (R104). -/
def Zone.nextLoad (now : Win) (zn : Zone) : Option Load :=
  zn.held.find? fun ld => decide (ld.xfer = .awaiting) && winLater ld.window now

/-- The link looks for a load to send and begins to send it in this event (R104). -/
def Zone.look (z : Fin 8) (now : Win) (ms : Nat) (zn : Zone) : Zone :=
  if zn.link = .linked ∧ zn.sending = none ∧ zn.probeMs = none then
    match zn.nextLoad now with
    | none => zn
    | some ld =>
      { zn.setXfer ld.window (fun x => { x with xfer := .sending, sends := 1 }) with
        sendMs := ms, lastFrame := loadFrame z ld }
  else zn

/-- The link of zone `z` looks for a load (R104). -/
def look (z : Fin 8) (s : State) : State :=
  s.modZone z (Zone.look z s.now s.ms)

/-- The link has begun to send load `ld` at an error again: a resend (R105). -/
def Zone.resend (z : Fin 8) (ms : Nat) (ld : Load) (zn : Zone) : Zone :=
  { zn.setXfer ld.window (fun x => { x with sends := x.sends + 1 }) with
    sendMs := ms, lastFrame := loadFrame z ld, resends := satAdd 65535 zn.resends 1 }

/-- A load in SENDING becomes ABANDONED (R105, R108). -/
def Zone.abandon (zn : Zone) : Zone :=
  { zn with held := zn.held.map fun ld => if ld.xfer = .sending then { ld with xfer := .abandoned } else ld }

/-! ### Changes of link state and errors -/

/-- Writes the STATE-CHANGE record of a zone and raises ZONE (R100, R102). -/
def zoneChange (z : Fin 8) (old : LinkState) (cause : ChangeCause) (s : State) : State :=
  stateChange
    { source := .zone z, old := old.toNat, new := (s.zone z).link.toNat, cause := cause,
      inService := (s.zone z).inService, onAir := (s.zone z).onAir, window := s.now } .zone s

/-- Takes the controller status an accepted answer carries; a change is recorded with cause CONTROLLER (R102). -/
def takeStatus (z : Fin 8) (onAir : Bool) (s : State) : State :=
  if (s.zone z).onAir = onAir then s
  else zoneChange z (s.zone z).link .controller (s.modZone z fun zn => { zn with onAir := onAir })

/-- Counts one error on a zone; a LINKED link whose errors this sweep reach the threshold becomes DOWN (R107, R108). -/
def zoneError (z : Fin 8) (s : State) : State :=
  let s := s.modZone z fun zn =>
    { zn with errorsSweep := satAdd 255 zn.errorsSweep 1, errorTotal := satAdd 65535 zn.errorTotal 1 }
  if (s.zone z).link = .linked ∧ s.settings.zoneThreshold ≤ (s.zone z).errorsSweep then
    zoneChange z .linked .errors (s.modZone z fun zn => { zn.abandon with link := .down })
  else s

/-- An error of the transfer in progress (R105): the same load is sent again at once, or it becomes ABANDONED and the
link looks for the next load. -/
def transferError (z : Fin 8) (s : State) : State :=
  match (s.zone z).sending with
  | none => s
  | some ld =>
    let s := zoneError z s
    if (s.zone z).link = .linked ∧ ld.sends < 3 ∧ winLater ld.window s.now then
      s.modZone z (Zone.resend z s.ms ld)
    else look z (s.modZone z Zone.abandon)

/-- A failed probe (R101, R102): in SYNC and DOWN good probes returns to 0 and the error total rises; in LINKED one
error is counted. -/
def probeFails (z : Fin 8) (s : State) : State :=
  let s := s.modZone z fun zn => { zn with probeMs := none }
  if (s.zone z).link = .linked then look z (zoneError z s)
  else s.modZone z fun zn => { zn with goodProbes := 0, errorTotal := satAdd 65535 zn.errorTotal 1 }

/-- A good PROBE-OK (R101, R102). -/
def probeGood (z : Fin 8) (onAir : Bool) (s : State) : State :=
  let s := s.modZone z fun zn => { zn with probeMs := none }
  let link := (s.zone z).link
  if link = .sync ∨ link = .down then
    if 1 ≤ (s.zone z).goodProbes then
      look z (zoneChange z link .probes
        (s.modZone z fun zn => { zn with link := .linked, goodProbes := 0, onAir := onAir }))
    else takeStatus z onAir (s.modZone z fun zn => { zn with goodProbes := zn.goodProbes + 1 })
  else look z (takeStatus z onAir s)

/-- A test load is mismatched (R114). -/
def echoMismatch (z : Fin 8) (s : State) : State :=
  s.modZone z fun zn => { zn with echo := none, testMismatches := satAdd 65535 zn.testMismatches 1 }

/-- A stray answer (R105). -/
def strayAnswer (z : Fin 8) (s : State) : State :=
  s.modZone z fun zn => { zn with strayAnswers := satAdd 65535 zn.strayAnswers 1 }

/-- An answer with a bad check for the exchange in progress (R103): a probe fails (R101), a test load is mismatched
(R114), and for a load in SENDING, as with no exchange, it is simply discarded (R105). DESIGN CHOICE (log 40): so is a
complete answer with a bad check whose kind byte is not the one the exchange awaits. -/
def badAnswer (z : Fin 8) (s : State) : State :=
  if (s.zone z).probeMs.isSome then probeFails z s
  else if (s.zone z).echo.isSome then echoMismatch z s
  else s

/-! ### Controller answers (R103) -/

/-- The length of an answer of this kind: 9 bytes, or 137 for ECHO; `none` for a kind byte that is none of the four. -/
def answerLength (kind : Byte) : Option Nat :=
  if kind = 1 ∨ kind = 2 ∨ kind = 3 then some 9 else if kind = 4 then some 137 else none

/-- The window count an answer names. -/
def answerWindow (bs : List Byte) : Win :=
  BitVec.ofNat 32 (beNat ((bs.drop 2).take 4))

/-- Whether the status byte of an answer says ON-AIR. -/
def answerOnAir (bs : List Byte) : Bool :=
  statusOnAir (bs.getD 6 0)

/-- The answer's check is the CRC-16 of the bytes from the kind to the last byte before it (section 11.9.6). -/
def answerCheck (bs : List Byte) : Bool :=
  crc16Bytes (bs.take (bs.length - 2)) == bs.drop (bs.length - 2)

/-- A LOAD-OK or LOAD-BAD with a correct check (R105): an answer that names another window than the load in SENDING is
stray, and so is a LOAD-OK taken after the start of the load's window (R79, R106). DESIGN CHOICE (log 39): the record of a
changed status comes before the record of the error. -/
def loadAnswer (z : Fin 8) (good : Bool) (bs : List Byte) (s : State) : State :=
  match (s.zone z).sending with
  | none => strayAnswer z s
  | some ld =>
    if ld.window = answerWindow bs ∧ (good = true → winLater ld.window s.now = true) then
      let s := takeStatus z (answerOnAir bs) s
      if good then look z (s.modZone z (Zone.setXfer ld.window fun x => { x with xfer := .acknowledged }))
      else transferError z s
    else strayAnswer z s

/-- A PROBE-OK with a correct check (R101, R103). -/
def probeAnswer (z : Fin 8) (bs : List Byte) (s : State) : State :=
  if (s.zone z).probeMs.isSome then probeGood z (answerOnAir bs) s else strayAnswer z s

/-- An ECHO with a correct check (R114). -/
def echoAnswer (z : Fin 8) (bs : List Byte) (s : State) : State :=
  match (s.zone z).echo with
  | none => strayAnswer z s
  | some e =>
    if e.window = answerWindow bs then
      if (bs.drop 7).take 128 = e.body then s.modZone z fun zn => { zn with echo := none } else echoMismatch z s
    else strayAnswer z s

/-- A complete answer is handled in the event of its last byte (R103). -/
def completeAnswer (z : Fin 8) (bs : List Byte) (s : State) : State :=
  if answerCheck bs then
    let kind := bs.getD 0 0
    if kind = 1 then loadAnswer z true bs s
    else if kind = 2 then loadAnswer z false bs s
    else if kind = 3 then probeAnswer z bs s
    else echoAnswer z bs s
  else badAnswer z s

/-- A byte arrives on a zone link (R103). -/
def linkByte (z : Fin 8) (byte : Byte) (s : State) : State :=
  match (s.zone z).rxBytes with
  | [] =>
    if (answerLength byte).isSome then s.modZone z fun zn => { zn with rxBytes := [byte], rxMs := s.ms }
    else badAnswer z s
  | kind :: rest =>
    let bs := kind :: rest ++ [byte]
    if answerLength kind = some bs.length then completeAnswer z bs (s.modZone z fun zn => { zn with rxBytes := [] })
    else s.modZone z fun zn => { zn with rxBytes := bs }

/-- The link is assembling an answer of this kind and needs one more byte. -/
def Zone.lastByteOf (kind : Byte) (zn : Zone) : Bool :=
  decide (zn.rxBytes.head? = some kind ∧ answerLength kind = some (zn.rxBytes.length + 1))

/-- The last byte of an answer of this kind arrives; where no such answer is one byte short, the event does not apply
(log 1, log 21). -/
def lastAnswerByte (kind : Byte) (z : Fin 8) (byte : Byte) (b : Bus) (s : State) : Out :=
  if (s.zone z).lastByteOf kind then finish b s (linkByte z byte s) else .next s

/-- LOAD_OK (R105): the last byte of a LOAD-OK arrives. -/
def execLoadOk (z : Fin 8) (byte : Byte) (b : Bus) (s : State) : Out :=
  lastAnswerByte 1 z byte b s

/-- LOAD_BAD (R105): the last byte of a LOAD-BAD arrives. -/
def execLoadBad (z : Fin 8) (byte : Byte) (b : Bus) (s : State) : Out :=
  lastAnswerByte 2 z byte b s

/-- PROBE_OK (R101): the last byte of a PROBE-OK arrives. -/
def execProbeOk (z : Fin 8) (byte : Byte) (b : Bus) (s : State) : Out :=
  lastAnswerByte 3 z byte b s

/-- ECHO (R114): the last byte of an ECHO arrives. -/
def execEcho (z : Fin 8) (byte : Byte) (b : Bus) (s : State) : Out :=
  lastAnswerByte 4 z byte b s

/-- CONTROLLER_ANSWER_BYTE (R103): a byte arrives on a zone link. -/
def execControllerAnswerByte (z : Fin 8) (byte : Byte) (b : Bus) (s : State) : Out :=
  finish b s (linkByte z byte s)

/-- UNKNOWN_ANSWER_KIND (R103): a kind byte that is none of the four arrives while no answer is being assembled. -/
def execUnknownAnswerKind (z : Fin 8) (byte : Byte) (b : Bus) (s : State) : Out :=
  if (s.zone z).rxBytes = [] ∧ answerLength byte = none then finish b s (badAnswer z s) else .next s

/-- ZONE_LINK_FRAMING_FAILURE (R103): a framing failure while an answer is being assembled. -/
def execZoneLinkFramingFailure (z : Fin 8) (b : Bus) (s : State) : Out :=
  if (s.zone z).rxBytes = [] then .next s
  else finish b s (badAnswer z (s.modZone z fun zn => { zn with rxBytes := [] }))

/-- ANSWER_ASSEMBLY_TIMEOUT (R103): an answer not complete 250 ms after its kind byte arrived. -/
def execAnswerAssemblyTimeout (z : Fin 8) (b : Bus) (s : State) : Out :=
  if (s.zone z).rxBytes = [] then .next s
  else
    let t := s.passTo ((s.zone z).rxMs + 250)
    finish b s (badAnswer z (t.modZone z fun zn => { zn with rxBytes := [] }))

/-- LOAD_ANSWER_TIMEOUT (R105): 250 ms have passed since the send of the load in SENDING. -/
def execLoadAnswerTimeout (z : Fin 8) (b : Bus) (s : State) : Out :=
  if (s.zone z).sending = none then .next s
  else finish b s (transferError z (s.passTo ((s.zone z).sendMs + 250)))

/-- PROBE_TIMEOUT (R101): 250 ms have passed since the probe that awaits its answer. -/
def execProbeTimeout (z : Fin 8) (b : Bus) (s : State) : Out :=
  match (s.zone z).probeMs with
  | none => .next s
  | some t => finish b s (probeFails z (s.passTo (t + 250)))

/-- ECHO_TIMEOUT (R114): 250 ms have passed since the test load whose echo is awaited. -/
def execEchoTimeout (z : Fin 8) (b : Bus) (s : State) : Out :=
  match (s.zone z).echo with
  | none => .next s
  | some e => finish b s (echoMismatch z (s.passTo (e.sentMs + 250)))

/-! ### Window start and sweep start -/

/-- The link sends a probe at a window start: in SYNC and DOWN, and in LINKED while the controller is OFF-AIR and no
transfer is in progress (R101, R102). -/
def Zone.probes (zn : Zone) : Bool :=
  decide (zn.link = .sync ∨ zn.link = .down ∨ (zn.link = .linked ∧ zn.onAir = false ∧ zn.sending = none))

/-- ZONE_PROBE (R101, R102): the probe frame of section 11.9.6 is sent and awaits its answer. -/
def execZoneProbe (z : Fin 8) (b : Bus) (s : State) : Out :=
  if s.due.probe.getLsbD z.val then
    let t := { s with due.probe := s.due.probe &&& ~~~(zoneBit z) }
    if (s.zone z).probes then
      finish b s (t.modZone z fun zn => { zn with probeMs := some s.ms, lastFrame := linkFrame 3 z s.now 0 0 [] })
    else .next t
  else .next s

/-- TEST_LOAD_SEND (R113): one test load of 128 pattern bytes is sent. -/
def execTestLoadSend (z : Fin 8) (b : Bus) (s : State) : Out :=
  if s.due.testLoad.getLsbD z.val then
    let t := { s with due.testLoad := s.due.testLoad &&& ~~~(zoneBit z) }
    if (s.zone z).link = .test then
      let body := patternBytes 128 (s.zone z).pattern
      finish b s (t.modZone z fun zn =>
        { zn with pattern := body.2, testLoads := satAdd 65535 zn.testLoads 1,
                  echo := some { window := s.now, body := body.1, sentMs := s.ms },
                  lastFrame := linkFrame 2 z s.now 0 0 body.1 })
    else .next t
  else .next s

/-- ZONE_SWEEP_START (R107): every zone's errors this sweep is set to 0. -/
def execZoneSweepStart (b : Bus) (s : State) : Out :=
  if s.due.zoneSweep then
    finish b s ({ s with due.zoneSweep := false }.modZones fun _ zn => { zn with errorsSweep := 0 })
  else .next s

/-! ### The declaration (R109 to R111, R128, R130, R131) -/

/-- Declares one zone's loads of window `w`: an ACKNOWLEDGED load is on air, any other is missed, and each leaves the
held loads (R109). -/
def Zone.declare (w : Win) (zn : Zone) : Zone :=
  let mine := zn.held.filter fun ld => ld.window = w
  let good := mine.countP fun ld => ld.xfer = .acknowledged
  { zn with held := zn.held.filter fun ld => ld.window ≠ w,
            loadsOnAir := satAdd 65535 zn.loadsOnAir good,
            loadsMissed := satAdd 65535 zn.loadsMissed (mine.length - good) }

/-- The items on air in window `w`, zone by zone, each zone's in load order (R109). -/
def onAirItems (w : Win) (s : State) : List (Fin 8 × LoadItem) :=
  all8.flatMap fun z =>
    (((s.zone z).held.filter fun ld => decide (ld.window = w ∧ ld.xfer = .acknowledged)).flatMap Load.items).map
      fun it => (z, it)

/-- Counts one item on air into its message record, if the message is not FINAL (R110). -/
def countOnAir (e : Fin 8 × LoadItem) (s : State) : State :=
  match e.2 with
  | .control _ _ _ _ => s
  | .message serial _ _ _ _ _ _ _ =>
    s.modMsg serial fun m =>
      if m.state = .final then m
      else { m with zoneSends := satAdd 255 m.zoneSends 1, sentZones := m.sentZones ||| zoneBit e.1, transmitted := true }

/-- The control items on air, each once, in the order in which they first stand (R111). -/
def controlsOnAir : List (Fin 8 × LoadItem) → List (ControlKind × Nat × Nat)
  | [] => []
  | (_, .control k slot _ tag) :: rest =>
    (k, slot, tag) :: (controlsOnAir rest).filter (· != (k, slot, tag))
  | (_, .message _ _ _ _ _ _ _ _) :: rest => controlsOnAir rest

/-- A control item on air in window `w` is current: still the subscriber's pending item of that kind, carrying that tag,
with due window `w` (R128). -/
def isCurrent (w : Win) (c : ControlKind × Nat × Nat) (s : State) : Bool :=
  match (s.sub? c.2.1).bind Subscriber.pending with
  | none => false
  | some pd => decide (pd.kind = c.1 ∧ pd.tag = c.2.2 ∧ pd.due = w)

/-- A control item that went on air in window `w` (R128, R130, R131). -/
def controlOnAir (w : Win) (c : ControlKind × Nat × Nat) (s : State) : State :=
  let drop := fun (s : State) => s.modSub c.2.1 fun x => { x with pending := none }
  match c.1 with
  | .offer =>
    if isCurrent w c s then
      match s.sub? c.2.1 with
      | none => s
      | some sub =>
        if sub.tagState = .offered ∧ sub.tag = some c.2.2 then
          let s := dropOfferWait c.2.1 (drop s)
          { s with offerWait := s.offerWait ++
              [{ slot := c.2.1, tag := c.2.2, deadline := w + BitVec.ofNat 32 s.settings.ackDelay }] }
        else s
    else s
  | .withdraw =>
    if isCurrent w c s then
      let s := drop s
      { s with coolDown := coolSet c.2.2 (s.coolEnd w) s.coolDown }
    else
      { s with coolDown := s.coolDown.map fun e =>
          if e.1 = c.2.2 then
            match e.2 with
            | some x => if winLater (s.coolEnd w) x then (e.1, some (s.coolEnd w)) else e
            | none => e
          else e }

/-- LOAD_DECLARATION (R109 to R111): every held load for now is declared in every zone, the items on air are counted,
the messages of the list for now are settled in list order, and the control items on air are handed to the reply unit. -/
def execLoadDeclaration (b : Bus) (s : State) : Out :=
  if s.due.declaration then
    let w := s.now
    let items := onAirItems w s
    let t := { s with due.declaration := false }
    let t := t.modZones fun z zn => Zone.look z w s.ms (Zone.declare w zn)
    let t := items.foldl (fun t e => countOnAir e t) t
    let t := settleAll w (calList w t.dueCal) t
    let t := (controlsOnAir items).foldl (fun t c => controlOnAir w c t) t
    finish b s t
  else .next s

/-- The zone link unit's answer to a CANCEL (R66, R112): a held load of window `w` that carries the message is
ACKNOWLEDGED. -/
def acknowledgedWith (serial : Nat) (w : Win) (s : State) : Bool :=
  all8.any fun z => (s.zone z).held.any fun ld =>
    decide (ld.window = w ∧ ld.xfer = .acknowledged) && ld.items.any (LoadItem.isMessage serial)

end Sys2Proof.Machine
end

