-- ==== Sys2Proof/Machine/Builder.lean ====
section
/-! DEFINITION. The window builder (chapter 5): WINDOW_BUILD. The loads in building and the run exist only inside one
build (R80), as arguments of its steps (log 19). -/

namespace Sys2Proof.Machine

/-- A load in building: the items placed, the cells used and the control items placed (R80). -/
structure Building where
  items    : List LoadItem
  cells    : Nat
  controls : Nat
  deriving DecidableEq, Repr

/-- The loads in building, by zone. -/
abbrev Buildings := Vector Building 8

/-- No load holds anything yet. -/
def Buildings.empty : Buildings :=
  Vector.replicate 8 { items := [], cells := 0, controls := 0 }

/-- Appends an item to the load of each zone of a set. -/
def Buildings.place (it : LoadItem) (zs : ZoneSet) (bs : Buildings) : Buildings :=
  (zonesOf zs).foldl (fun (acc : Buildings) (z : Fin 8) =>
    acc.set z
      { items := acc[z].items ++ [it], cells := acc[z].cells + it.cells,
        controls := match it with
          | .control _ _ _ _ => acc[z].controls + 1
          | .message _ _ _ _ _ _ _ _ => acc[z].controls }) bs

/-- A zone is available to a build: LINKED, ON-AIR and IN-SERVICE (R81). -/
def Zone.available (zn : Zone) : Bool :=
  decide (zn.link = .linked ∧ zn.onAir = true ∧ zn.inService = true)

/-- The available zones, read once at the beginning of the build (R81). -/
def availableZones (s : State) : ZoneSet :=
  all8.foldl (fun acc z => if (s.zone z).available then acc ||| zoneBit z else acc) 0

/-- What the build for `w` does to a pending control item before placement (R84): an item left unplaced for `w - 1`, or
whose due window has passed, moves to the first wake window at or after `w`. -/
def preparePending (w : Win) (sub : Subscriber) (pd : Pending) : Pending :=
  if (pd.due = w - 1 ∧ pd.placed = false) ∨ winLater (w - 2) pd.due then
    { pd with due := sub.wakeAt w, placed := false }
  else pd

/-- Examines the pending control item of every slot of a list (R84). -/
def preparePendings (w : Win) : List Nat → State → State
  | [], s => s
  | n :: rest, s =>
    preparePendings w rest (s.modSub n fun x => { x with pending := x.pending.map (preparePending w x) })

/-- Places the control item of one slot, or moves it to the next wake window (R87, R88). -/
def placeControl (w : Win) (avail : ZoneSet) (k : ControlKind) (n : Nat) (r : State × Buildings) : State × Buildings :=
  match r.1.sub? n with
  | none => r
  | some sub =>
    match sub.pending with
    | none => r
    | some pd =>
      if pd.kind = k ∧ pd.due = w then
        let target := sub.lastKnown.getD sub.area &&& avail
        if target ≠ 0 ∧ (zonesOf target).all (fun (z : Fin 8) => decide (r.2[z].controls < 8)) then
          (r.1.modSub n fun x => { x with pending := some { pd with placed := true } },
           r.2.place (.control k n sub.pager pd.tag) target)
        else
          (r.1.modSub n fun x => { x with pending := some { pd with due := sub.wakeAfter w, placed := false } }, r.2)
      else r

/-- Places control items of one kind over the slots of a list (R87). -/
def placeControls (w : Win) (avail : ZoneSet) (k : ControlKind) : List Nat → State × Buildings → State × Buildings
  | [], r => r
  | n :: rest, r => placeControls w avail k rest (placeControl w avail k n r)

/-- A message candidate: its serial, its class and cells at the beginning of the build, and its attempt zone set (R86,
R89). -/
structure Candidate where
  serial : Nat
  cls    : MsgClass
  cells  : Nat
  zones  : ZoneSet
  deriving DecidableEq, Repr

/-- What preparation has gathered: the state, the candidates in list order, and the messages marked to move. -/
structure Prepared where
  state  : State
  cands  : List Candidate
  marked : List Nat

/-- Prepares one message of the list for the window of the build (R85, R86, R138). -/
def prepareMessage (avail : ZoneSet) (serial : Nat) (r : Prepared) : Prepared :=
  match r.state.msg? serial with
  | none => r
  | some m =>
    match r.state.sub? m.slot with
    | none => r
    | some sub =>
      if m.state = .waiting ∨ m.state = .retryWait then
        if sub.state = .suspended then { r with marked := r.marked ++ [serial] }
        else if sub.twoWay ∧ r.state.retryLimit sub + 1 ≤ m.attempts then { r with state := exhaust serial r.state }
        else
          let zs := attemptZones r.state.settings sub m.attempts &&& avail
          if zs = 0 then { r with marked := r.marked ++ [serial] }
          else { r with cands := r.cands ++ [{ serial := serial, cls := m.cls, cells := m.cells, zones := zs }] }
      else r

/-- Prepares the messages of a list, in list order (R85). -/
def prepareMessages (avail : ZoneSet) : List Nat → Prepared → Prepared
  | [], r => r
  | serial :: rest, r => prepareMessages avail rest (prepareMessage avail serial r)

/-- The oldest candidate of a class: the smallest serial (R89). -/
def oldestOf (c : MsgClass) (cands : List Candidate) : Option Candidate :=
  (cands.filter fun x => x.cls = c).foldl (fun acc x =>
    match acc with
    | none => some x
    | some y => if x.serial < y.serial then some x else some y) none

/-- The oldest candidate of the highest class, among those of `cs`, that has one. -/
def oldestAmong (cs : List MsgClass) (cands : List Candidate) : Option Candidate :=
  cs.findSome? fun c => oldestOf c cands

/-- The classes, highest first (R89). -/
def classes : List MsgClass := [.urgent, .high, .normal, .routine]

/-- The run (R80): a class with a count, or none. -/
abbrev Run := Option (MsgClass × Nat)

/-- The selection of the next candidate and the run after it (R89): a lower class has its turn when the run has reached
the grant limit; otherwise the oldest candidate of the highest class. -/
def selectNext (grant : Nat) (run : Run) (cands : List Candidate) : Option (Candidate × Run) :=
  let turn := match run with
    | some (c, n) => if grant ≠ 0 ∧ grant ≤ n then oldestAmong (classes.filter fun d => d.lower c) cands else none
    | none => none
  match turn with
  | some x => some (x, none)
  | none => (oldestAmong classes cands).map fun x => (x, run)

/-- The run after a placement (R89); its count has the range of R80. -/
def Run.placed (c : MsgClass) : Run → Run
  | some (c', n) => if c' = c then some (c, satAdd 255 n 1) else some (c, 1)
  | none => some (c, 1)

/-- The message item the builder writes (R83). -/
def messageItem (m : Message) (sub : Subscriber) : LoadItem :=
  .message m.serial m.slot sub.pager m.seq m.cls m.kind m.text m.cells

/-- A candidate fits when each zone of its set can take its cells (R90). -/
def Candidate.fits (c : Candidate) (cap : Vector Nat 8) (bs : Buildings) : Bool :=
  (zonesOf c.zones).all fun (z : Fin 8) => decide (bs[z].cells + c.cells ≤ cap[z])

/-- Deferral and promotion of a message (R91). -/
def deferMessage (m : Message) : Message :=
  let d := satAdd 255 m.deferrals 1
  { m with deferrals := d,
           cls := if m.deferrals < 255 ∧ d % 4 = 0 then m.cls.raised else m.cls }

/-- A promotion is counted when the class is raised (R91). -/
def promotes (m : Message) : Bool :=
  decide ((deferMessage m).cls ≠ m.cls)

/-- A candidate that does not fit (R91). -/
def deferCandidate (serial : Nat) (s : State) : State :=
  match s.msg? serial with
  | none => s
  | some m =>
    let s := s.modMsg serial deferMessage
    { s with deferrals := satAdd 65535 s.deferrals 1,
             promotions := if promotes m then satAdd 65535 s.promotions 1 else s.promotions }

/-- What the placement of messages works on. -/
structure Placing where
  state  : State
  loads  : Buildings
  marked : List Nat

/-- Places a candidate that fits (R90), or defers it (R91). -/
def considerOne (cap : Vector Nat 8) (c : Candidate) (r : Placing) : Placing × Bool :=
  if c.fits cap r.loads then
    match r.state.msg? c.serial with
    | none => (r, false)
    | some m =>
      match r.state.sub? m.slot with
      | none => (r, false)
      | some sub =>
        ({ r with loads := r.loads.place (messageItem m sub) c.zones,
                  state := r.state.modMsg c.serial fun x =>
                    { x with attemptZones := c.zones, sentZones := 0, state := .loaded } }, true)
  else ({ r with state := deferCandidate c.serial r.state, marked := r.marked ++ [c.serial] }, false)

/-- Considers the candidates one at a time, each exactly once (R89 to R91). -/
def considerAll (grant : Nat) (cap : Vector Nat 8) : Nat → Run → List Candidate → Placing → Placing
  | 0, _, _, r => r
  | n + 1, run, cands, r =>
    match selectNext grant run cands with
    | none => r
    | some (c, run') =>
      let o := considerOne cap c r
      considerAll grant cap n (if o.2 then Run.placed c.cls run' else run')
        (cands.filter fun x => x.serial != c.serial) o.1

/-- The slots of the messages of a list, each once, in the order in which each first appears (R92). -/
def slotsInOrder (s : State) : List Nat → List Nat
  | [] => []
  | serial :: rest =>
    match s.msg? serial with
    | none => slotsInOrder s rest
    | some m => m.slot :: (slotsInOrder s rest).filter (· != m.slot)

/-- Moves the marked messages of one queue, in queue order, to the subscriber's next wake window after `w` (R92). -/
def moveMarked (w : Win) (marked : List Nat) (sub : Subscriber) : List Nat → State → State
  | [], s => s
  | serial :: rest, s =>
    moveMarked w marked sub rest (if serial ∈ marked then redue serial (sub.wakeAfter w) s else s)

/-- Moves the marked messages, subscriber by subscriber (R92). -/
def moveAll (w : Win) (marked : List Nat) : List Nat → State → State
  | [], s => s
  | n :: rest, s =>
    match s.sub? n with
    | none => moveAll w marked rest s
    | some sub => moveAll w marked rest (moveMarked w marked sub sub.queue s)

/-- Hands the load of each available zone over and records the last build (R93); each link looks for a load to send
(R104). -/
def handOver (w : Win) (avail : ZoneSet) (bs : Buildings) (s : State) : State :=
  s.modZones fun z zn =>
    if avail.getLsbD z.val then
      Zone.look z s.now s.ms
        { zn with
          held := zn.held ++
            [{ window := w, items := bs[z].items, cells := bs[z].cells, controls := bs[z].controls, xfer := .awaiting,
               sends := 0 }],
          lastBuild := some (bs[z].cells, bs[z].items.length) }
    else { zn with lastBuild := none }

/-- The whole build for window `w` (R82). DESIGN CHOICE (log 44): the order of subscribers in the moves (R92) is that of the
list at the beginning of the build, in which a message that preparation exhausts still stands. -/
def build (w : Win) (s : State) : State :=
  let avail := availableZones s
  let slots := s.slots.map Prod.fst
  let list := calList w s.dueCal
  let order := slotsInOrder s list
  let grant := s.settings.grantLimit
  let cap := s.settings.capacity
  let s := preparePendings w slots s
  let p := prepareMessages avail list { state := s, cands := [], marked := [] }
  let c := placeControls w avail .withdraw slots (p.state, Buildings.empty)
  let c := placeControls w avail .offer slots c
  let r := considerAll grant cap p.cands.length none p.cands { state := c.1, loads := c.2, marked := p.marked }
  handOver w avail r.loads (moveAll w r.marked order r.state)

/-- WINDOW_BUILD (R82): at the start of window N, the build for N + 2, once. -/
def execWindowBuild (b : Bus) (s : State) : Out :=
  if s.due.build then finish b s (build (s.now + 2) { s with due.build := false }) else .next s

/-- A late entry of the list for now + 1 (R35). -/
def moveLate (serial : Nat) (s : State) : State :=
  match s.msg? serial with
  | none => s
  | some m =>
    match s.sub? m.slot with
    | none => s
    | some sub =>
      if m.state = .waiting ∨ m.state = .retryWait then redue serial (sub.wakeAt (s.now + 3)) s else s

/-- Moves the late entries of a list, in list order (R35). DESIGN CHOICE (log 33): R34 says that the messages of one
subscriber go in queue order; where the two differ, list order decides. -/
def moveLateAll : List Nat → State → State
  | [], s => s
  | serial :: rest, s => moveLateAll rest (moveLate serial s)

/-- LATE_ENTRY_MOVE (R35). -/
def execLateEntryMove (b : Bus) (s : State) : Out :=
  if s.due.lateEntry then
    finish b s (moveLateAll (calList (s.now + 1) s.dueCal) { s with due.lateEntry := false })
  else .next s

/-- MESSAGE_EXPIRY (R38): every message in the expiry list for now becomes FINAL EXPIRED, in list order. -/
def execMessageExpiry (b : Bus) (s : State) : Out :=
  if s.due.expiry then
    finish b s (finalizeAll .expired (calList s.now s.expiryCal) { s with due.expiry := false })
  else .next s

end Sys2Proof.Machine
end

