-- ==== Sys2Proof/Machine/Replies.lean ====
section
/-! DEFINITION. The reply unit (chapter 7): reply frames, resolution, the merge list, registration, tag allocation,
reclaim, and its reactions to window and sweep starts. -/

namespace Sys2Proof.Machine

/-! ### Closing a merge list entry (R121) -/

/-- The zones of a set of sites under the site-to-zone map as it stands (R118). -/
def zonesOfSites (st : Settings) (sites : SiteSet) : ZoneSet :=
  (all16.filter fun i => sites.getLsbD i.val).foldl (fun (acc : ZoneSet) (i : Fin 16) =>
    acc ||| zoneBit st.siteZone[i]) 0

/-- The effects of closing an entry on its subscriber (R121). -/
def closeOn (st : Settings) (e : MergeEntry) (sub : Subscriber) : Subscriber :=
  let zs := zonesOfSites st e.sites &&& sub.area
  { sub with
    lastKnown := if zs = 0 then sub.lastKnown else some zs,
    lastReply := match sub.lastReply with
      | some w => if winLater w e.first then some w else some e.first
      | none => some e.first }

/-- The closing effects of an entry, made only when its slot still holds a two-way subscriber whose pager number equals
the entry's (R121). -/
def closeEntry (e : MergeEntry) (s : State) : State :=
  match s.sub? e.slot with
  | none => s
  | some sub =>
    if sub.twoWay ∧ sub.pager = e.pager then s.modSub e.slot (closeOn s.settings e) else s

/-- Closes the entries of a list, in list order. -/
def closeEntries : List MergeEntry → State → State
  | [], s => s
  | e :: rest, s => closeEntries rest (closeEntry e s)

/-- An entry has reached the merge span (R120, R121). -/
def MergeEntry.spent (e : MergeEntry) (s : State) : Bool :=
  decide (s.settings.mergeSpan ≤ (s.now - e.first).toNat)

/-- MERGE_CLOSE (R121). -/
def execMergeClose (b : Bus) (s : State) : Out :=
  if s.due.mergeClose then
    let t := { s with due.mergeClose := false, merge := s.merge.filter fun e => !e.spent s }
    finish b s (closeEntries (s.merge.filter fun e => e.spent s) t)
  else .next s

/-! ### Tags: offer, withdrawal, allocation and reclaim -/

/-- A TAG-OFFER of the tag becomes the pending control item, due at the first wake window at or after now + 2, with its
placed mark no; an earlier pending offer leaves the loads that await transfer (R124, R129, R95). -/
def offerTag (slot tag : Nat) (s : State) : State :=
  (dropOffer slot s).modSub slot fun x =>
    { x with pending := some { kind := .offer, tag := tag, due := x.wakeAt (s.now + 2), placed := false } }

/-- The withdrawal of a holder's tag: steps 1 to 3 of R126. -/
def withdrawTag (slot tag : Nat) (s : State) : State :=
  let s := { s with tags := Assoc.erase tag s.tags, coolDown := s.coolDown ++ [(tag, none)] }
  s.modSub slot fun x =>
    { x with tag := none, tagState := .none, offers := 0,
             pending := some { kind := .withdraw, tag := tag, due := x.wakeAt (s.now + 2), placed := false } }

/-- A holder that may be reclaimed from (R126): CONFIRMED, with a last reply window, and with no message LOADED or SENT.
The result carries that window. -/
def reclaimable (s : State) (slot : Nat) : Option Win :=
  match s.sub? slot with
  | none => none
  | some sub => if sub.tagState = .confirmed ∧ s.inFlight slot = false then sub.lastReply else none

/-- The holder the reclaim takes: the earliest last reply window, and between equals the lowest tag (R126). -/
def reclaimChoice (s : State) : List (Nat × Nat) → Option (Nat × Nat × Win)
  | [] => none
  | (tag, slot) :: rest =>
    match reclaimable s slot, reclaimChoice s rest with
    | none, r => r
    | some w, none => some (tag, slot, w)
    | some w, some (tag', slot', w') => if winLater w w' then some (tag', slot', w') else some (tag, slot, w)

/-- A reclaim (R126); with no eligible holder it takes nothing. -/
def reclaim (s : State) : State :=
  match reclaimChoice s s.tags with
  | none => s
  | some (tag, slot, _) =>
    let s := withdrawTag slot tag s
    { s with replyCounts.reclaims := satAdd 65535 s.replyCounts.reclaims 1 }

/-- Allocates a tag to a registering subscriber from the head of the free list, or attempts a reclaim and gives none
(R124 step 2, R125). -/
def allocateTag (slot : Nat) (s : State) : State :=
  match s.tagFree with
  | tag :: rest =>
    { s with tagFree := rest, tags := Assoc.put tag slot s.tags }.modSub slot fun x => { x with tag := some tag }
  | [] =>
    let s := reclaim s
    { s with replyCounts.noTag := satAdd 65535 s.replyCounts.noTag 1 }

/-- A pending TAG-WITHDRAW stands for the subscriber. -/
def Subscriber.withdrawPending (sub : Subscriber) : Bool :=
  match sub.pending with
  | some pd => decide (pd.kind = .withdraw)
  | none => false

/-- A REGISTER that opens an entry (R124). -/
def actRegister (slot : Nat) (site : Fin 16) (s : State) : State :=
  match s.sub? slot with
  | none => s
  | some sub =>
    -- step 1: the last-known zone set
    let z := zoneBit s.settings.siteZone[site]
    let s := if sub.area &&& z ≠ 0 then s.modSub slot fun x => { x with lastKnown := some z } else s
    -- step 2: the tag
    let s := if sub.tag = none ∧ sub.withdrawPending = false then allocateTag slot s else s
    -- step 3: the offer
    let s := match (s.sub? slot).bind Subscriber.tag with
      | none => s
      | some tag =>
        offerTag slot tag (dropOfferWait slot (s.modSub slot fun x => { x with tagState := .offered, offers := 0 }))
    -- step 4: the release
    releaseByRegistration slot s

/-- IDLE_RELEASE for one holder (R132). -/
def idleOne (slot tag : Nat) (s : State) : State :=
  match s.sub? slot with
  | none => s
  | some sub =>
    match sub.tagState, sub.lastReply with
    | .confirmed, some w =>
      if winLater (s.now - BitVec.ofNat 32 (s.settings.tagIdle * 96)) w ∧ s.inFlight slot = false then
        withdrawTag slot tag s
      else s
    | _, _ => s

/-- Examines the holders of a list, in its order. -/
def idleAll : List (Nat × Nat) → State → State
  | [], s => s
  | (tag, slot) :: rest, s => idleAll rest (idleOne slot tag s)

/-- IDLE_RELEASE (R132): the holders in ascending tag order. -/
def execIdleRelease (b : Bus) (s : State) : Out :=
  if s.due.idleRelease then finish b s (idleAll s.tags { s with due.idleRelease := false }) else .next s

/-- OFFER_DEADLINE for one entry (R129). -/
def offerDeadlineOne (e : OfferWait) (s : State) : State :=
  if winLater s.now e.deadline then
    match s.sub? e.slot with
    | none => s
    | some sub =>
      if sub.offers < 2 then
        offerTag e.slot e.tag ((dropOfferWait e.slot s).modSub e.slot fun x => { x with offers := x.offers + 1 })
      else if s.inFlight e.slot then s
      else tagRelease e.slot (dropOfferWait e.slot s)
  else s

/-- Examines the entries of a list, in order of entry. DESIGN CHOICE (log 41): R129 states no order, and the order decides
in which order released tags enter the cool-down list. -/
def offerDeadlineAll : List OfferWait → State → State
  | [], s => s
  | e :: rest, s => offerDeadlineAll rest (offerDeadlineOne e s)

/-- OFFER_DEADLINE (R129). -/
def execOfferDeadline (b : Bus) (s : State) : Out :=
  if s.due.offerDeadline then
    finish b s (offerDeadlineAll s.offerWait { s with due.offerDeadline := false })
  else .next s

/-! ### Reply frames (R117, section 11.9.6) -/

/-- The lead mark of the entry lines and reply links. -/
def leadMark : Byte := 0x7E

/-- The kind of a reply by its code. -/
def ReplyKind.ofCode? (b : Byte) : Option ReplyKind :=
  if b = 1 then some .ack else if b = 2 then some .gap else if b = 3 then some .register
  else if b = 4 then some .tagConfirm else none

/-- The code of a reply kind. -/
def ReplyKind.toNat : ReplyKind → Nat
  | .ack => 1 | .gap => 2 | .register => 3 | .tagConfirm => 4

/-- A checked reply frame. -/
structure ReplyFrame where
  site  : Fin 16
  kind  : ReplyKind
  tag   : Nat
  pager : Nat
  seq   : Nat
  deriving DecidableEq, Repr

/-- The tests of R117 over the nine bytes after the lead mark: the check byte, the site, the kind, the tag with the kind,
the pager number, the sequence. A frame that fails one is bad. -/
def checkReply (bs : List Byte) : Option ReplyFrame :=
  let tag := beNat ((bs.drop 2).take 2) % 4096
  let pager := beNat ((bs.drop 4).take 3)
  let seq := (bs.getD 7 0).toNat
  if crc8 (bs.take 8) = bs.getD 8 0 then
    if h : (bs.getD 0 0).toNat < 16 then
      match ReplyKind.ofCode? (bs.getD 1 0) with
      | none => none
      | some kind =>
        if (kind = .register ∧ tag ≠ 0) ∨ (kind = .tagConfirm ∧ tag = 0) then none
        else if tag = 0 ∧ pager = 0 then none
        else if 63 < seq then none
        else some { site := ⟨(bs.getD 0 0).toNat, h⟩, kind := kind, tag := tag, pager := pager, seq := seq }
    else none
  else none

/-- Acts on a frame that has opened a merge list entry (R123). -/
def actReply (f : ReplyFrame) (slot : Nat) (s : State) : State :=
  match f.kind with
  | .ack => actAck slot f.seq s
  | .gap => actGap slot f.seq s
  | .register => actRegister slot f.site s
  | .tagConfirm => s

/-- The sequence of a merge list entry: 0 for REGISTER and TAG-CONFIRM (R120). -/
def ReplyFrame.mergeSeq (f : ReplyFrame) : Nat :=
  match f.kind with
  | .ack => f.seq
  | .gap => f.seq
  | .register => 0
  | .tagConfirm => 0

/-- A resolved frame matches an open entry (R120). -/
def MergeEntry.matchesFrame (e : MergeEntry) (f : ReplyFrame) (slot pager : Nat) : Bool :=
  decide (e.kind = f.kind ∧ e.slot = slot ∧ e.pager = pager ∧ e.seq = f.mergeSeq)

/-- With 32 entries open the head is closed with its full effects to make room (R120). -/
def makeRoom (s : State) : State :=
  match s.merge with
  | [] => s
  | e :: rest =>
    if 32 ≤ s.merge.length then
      let s := closeEntry e { s with merge := rest }
      { s with replyCounts.earlyCloses := satAdd 65535 s.replyCounts.earlyCloses 1 }
    else s

/-- A resolved frame goes to the merge list (R120): it joins a matching entry, or opens one and is acted on. -/
def mergeReply (f : ReplyFrame) (slot pager : Nat) (s : State) : State :=
  if s.merge.any fun e => e.matchesFrame f slot pager then
    { s with
      merge := s.merge.map fun e =>
        if e.matchesFrame f slot pager then { e with sites := e.sites ||| (1#16 <<< f.site.val) } else e,
      replyCounts.duplicates := satAdd 65535 s.replyCounts.duplicates 1 }
  else
    let s := makeRoom s
    actReply f slot
      { s with merge := s.merge ++
          [{ kind := f.kind, slot := slot, pager := pager, seq := f.mergeSeq, first := s.now,
             sites := 1#16 <<< f.site.val }] }

/-- A reply under an OFFERED tag confirms it (R119). -/
def confirmTag (slot : Nat) (s : State) : State :=
  dropOfferWait slot (dropOffer slot (s.modSub slot fun x => { x with tagState := .confirmed, offers := 0 }))

/-- Resolution of a checked frame (R119): by its tag, or with tag 0 by its pager number; STRAY where it finds no two-way
subscriber. -/
def resolveReply (f : ReplyFrame) (s : State) : State :=
  match (if f.tag = 0 then Assoc.get? f.pager s.pagers else Assoc.get? f.tag s.tags) with
  | none => stray s
  | some slot =>
    match s.sub? slot with
    | none => stray s
    | some sub =>
      if sub.twoWay then
        mergeReply f slot sub.pager (if f.tag ≠ 0 ∧ sub.tagState = .offered then confirmTag slot s else s)
      else stray s

/-- A bad reply frame (R117). -/
def badReply (k : Fin 4) (s : State) : State :=
  s.modReplyLink k fun r => { r with rx := none, badFrames := satAdd 65535 r.badFrames 1 }

/-- A complete reply frame (R117, R119). -/
def completeReply (k : Fin 4) (bs : List Byte) (s : State) : State :=
  match checkReply bs with
  | none => badReply k s
  | some f =>
    resolveReply f (s.modReplyLink k fun r => { r with rx := none, framesTaken := satAdd 65535 r.framesTaken 1 })

/-- A byte arrives on a reply link (R117); while the part is STARTING it is discarded (R116). -/
def replyByte (k : Fin 4) (byte : Byte) (s : State) : State :=
  if s.part = .starting then s
  else
    match (s.replyLink k).rx with
    | none => if byte = leadMark then s.modReplyLink k fun r => { r with rx := some [] } else s
    | some bs =>
      if bs.length + 1 = 9 then completeReply k (bs ++ [byte]) s
      else s.modReplyLink k fun r => { r with rx := some (bs ++ [byte]) }

/-- The link is one byte short of a frame whose kind byte is this kind. -/
def ReplyLink.lastByteOf (kind : ReplyKind) (r : ReplyLink) : Bool :=
  match r.rx with
  | some bs => decide (bs.length = 8 ∧ ReplyKind.ofCode? (bs.getD 1 0) = some kind)
  | none => false

/-- The last byte of a reply frame of this kind arrives; where no such frame is one byte short, the event does not apply
(log 1, log 21). -/
def lastReplyByte (kind : ReplyKind) (k : Fin 4) (byte : Byte) (b : Bus) (s : State) : Out :=
  if (s.replyLink k).lastByteOf kind then finish b s (replyByte k byte s) else .next s

/-- ACK (R145): the last byte of an ACK frame arrives. -/
def execAck (k : Fin 4) (byte : Byte) (b : Bus) (s : State) : Out :=
  lastReplyByte .ack k byte b s

/-- GAP (R146): the last byte of a GAP frame arrives. -/
def execGap (k : Fin 4) (byte : Byte) (b : Bus) (s : State) : Out :=
  lastReplyByte .gap k byte b s

/-- REGISTER (R124): the last byte of a REGISTER frame arrives. -/
def execRegister (k : Fin 4) (byte : Byte) (b : Bus) (s : State) : Out :=
  lastReplyByte .register k byte b s

/-- TAG_CONFIRM (R127): the last byte of a TAG-CONFIRM frame arrives. -/
def execTagConfirm (k : Fin 4) (byte : Byte) (b : Bus) (s : State) : Out :=
  lastReplyByte .tagConfirm k byte b s

/-- REPLY_LINK_BYTE_ARRIVAL (R117): a byte arrives on a reply link. -/
def execReplyLinkByteArrival (k : Fin 4) (byte : Byte) (b : Bus) (s : State) : Out :=
  finish b s (replyByte k byte s)

/-- REPLY_LINK_FRAMING_FAILURE (R117): while ASSEMBLING, the frame is discarded and counted as bad. -/
def execReplyLinkFramingFailure (k : Fin 4) (b : Bus) (s : State) : Out :=
  if (s.replyLink k).rx.isSome then finish b s (badReply k s) else .next s

/-- REPLY_FRAME_WINDOW_DISCARD (R117): at a window start a frame still ASSEMBLING is discarded and counted as bad. -/
def execReplyFrameWindowDiscard (k : Fin 4) (b : Bus) (s : State) : Out :=
  if s.due.replyDiscard.getLsbD k.val then
    let t := { s with due.replyDiscard := s.due.replyDiscard &&& ~~~(1#4 <<< k.val) }
    if (s.replyLink k).rx.isSome then finish b s (badReply k t) else .next t
  else .next s

end Sys2Proof.Machine
end

