-- ==== Sys2Proof/Machine/Slips.lean ====
section
/-! DEFINITION. Slips and the scan (R185, R186): the taking of a slip in a running scan, its answer in place, and the
kept answers; and the naming of a subscriber by a slip (R12). -/

namespace Sys2Proof.Machine

/-- The address of a slip in host memory (R184). -/
def slipAddress (base : Nat) (ix : Fin 64) : Nat :=
  base + 0x400 + 512 * ix.val

/-- Writes an answer's code, flags, the zero bytes and its fields over the slip (section 11.9.4). -/
def writeAnswer (base : Nat) (ix : Fin 64) (a : Answer) (m : List Host.Cell) : List Host.Cell :=
  memWrite (slipAddress base ix + 8)
    (leBytes 2 a.code.toNat ++ leBytes 2 a.flags.toNat ++ [0, 0, 0, 0] ++ a.fields) m

/-- Writes the mark ANSWERED of a slip (section 11.9.4). -/
def writeAnswered (base : Nat) (ix : Fin 64) (m : List Host.Cell) : List Host.Cell :=
  memWrite (slipAddress base ix) [2] m

/-- The port unit's scan has answered a slip (R185). -/
def PortUnit.scanAnswered (u : PortUnit) : PortUnit :=
  { u with scan := u.scan.map fun r => { r with answered := true } }

/-- How far index `ix` lies from the index at which the scan began, wrapping after 63 (R185). -/
def ScanRun.offset (r : ScanRun) (ix : Fin 64) : Nat :=
  (ix.val + 64 - r.start.val) % 64

/-- The index at an offset of the scan. -/
def ScanRun.indexAt (r : ScanRun) (k : Nat) : Fin 64 :=
  ⟨(r.start.val + k) % 64, Nat.mod_lt _ (by decide)⟩

/-- Writes the kept answer of an index, if there is one (R186): on success it leaves the list and the slip counts as
answered; on a bus error it stays, and AREA-WRITE-ERROR is captured with the index. -/
def writeKept (p : Port) (ix : Fin 64) (err : Bool) (s : State) : State :=
  match (s.port p).area, Assoc.get? ix.val (s.port p).kept with
  | some base, some a =>
    if err then capture p .areaWrite ix.val s
    else s.modPort p fun u =>
      { u.scanAnswered with
        kept := Assoc.erase ix.val u.kept, hostMem := writeAnswered base ix (writeAnswer base ix a u.hostMem) }
  | _, _ => s

/-- Passes `n` indices of the running scan from offset `k`: each index with a kept answer has it written (R185, R186). -/
def passIndices (p : Port) (r : ScanRun) (err : BitVec 64) : Nat → Nat → State → State
  | 0, _, s => s
  | n + 1, k, s =>
    passIndices p r err n (k + 1) (writeKept p (r.indexAt k) (err.getLsbD (r.indexAt k).val) s)

/-- The running scan has examined every index up to offset `k` (exclusive). -/
def PortUnit.examinedTo (k : Nat) (u : PortUnit) : PortUnit :=
  { u with scan := u.scan.map fun r => { r with examined := k } }

/-- The running scan has taken the slip at an index. -/
def PortUnit.slipTaken (ix : Fin 64) (u : PortUnit) : PortUnit :=
  { u with scan := u.scan.map fun r => { r with lastTaken := some ix } }

/-- Writes the answer of a slip in place, its mark last (R185); where a write meets a bus error the answer is kept and
AREA-WRITE-ERROR is captured (R186). -/
def answerSlip (p : Port) (base : Nat) (ix : Fin 64) (b : Bus) (a : Answer) (s : State) : State :=
  let s := if b.answer then s else s.modPort p fun u => { u with hostMem := writeAnswer base ix a u.hostMem }
  if b.answer ∨ b.mark then
    capture p .areaWrite ix.val (s.modPort p fun u => { u with kept := Assoc.put ix.val a u.kept })
  else s.modPort p fun u => { u.scanAnswered with hostMem := writeAnswered base ix u.hostMem }

/-- The act of a slip: the state after it and its answer. -/
abbrev Act := State → State × Answer

/-- While the part is STARTING every POSTED slip is answered NOT-READY (R185, R191). -/
def actWhenReady (act : Act) : Act := fun s =>
  if s.part = .starting then (s, { code := .notReady }) else act s

/-- Acts on a slip, captures MALFORMED-SLIP for a MALFORMED answer, and answers it in place (R185, R188). DESIGN CHOICE
(log 48): where the answer also meets a bus error, MALFORMED-SLIP is captured before AREA-WRITE-ERROR. -/
def actOnSlip (p : Port) (base : Nat) (ix : Fin 64) (b : Bus) (act : Act) (s : State) : State :=
  let o := actWhenReady act s
  let s := if o.2.code = .malformed then capture p .malformedSlip ix.val o.1 else o.1
  (answerSlip p base ix b o.2 s).modPort p (PortUnit.slipTaken ix)

/-- A slip can be taken: a scan is running that has not yet passed the index, and the port has an area in use (R185,
R182). -/
def State.canTake (s : State) (p : Port) (ix : Fin 64) : Bool :=
  match (s.port p).area, (s.port p).scan with
  | some _, some r => decide (r.examined ≤ r.offset ix)
  | _, _ => false

/-- The scan reaches a POSTED slip at index `ix` (R185, R186): the indices before it are passed; a kept answer of this
index is written instead of reading the slip; a bus error on the read captures AREA-READ-ERROR and leaves the slip; else
the slip is acted on and answered. Where no scan can take it, the event does not apply (log 1, log 9). -/
def takeSlip (p : Port) (ix : Fin 64) (b : Bus) (act : Act) (s : State) : State :=
  match (s.port p).area, (s.port p).scan with
  | some base, some r =>
    if r.examined ≤ r.offset ix then
      let s := passIndices p r b.kept (r.offset ix - r.examined) r.examined s
      let s := s.modPort p (PortUnit.examinedTo (r.offset ix + 1))
      match Assoc.get? ix.val (s.port p).kept with
      | some _ => writeKept p ix (b.kept.getLsbD ix.val) s
      | none => if b.slipRead then capture p .areaRead ix.val s else actOnSlip p base ix b act s
    else s
  | _, _ => s

/-- The whole event of a slip. -/
def slipEvent (p : Port) (ix : Fin 64) (b : Bus) (act : Act) (s : State) : Out :=
  finish b s (takeSlip p ix b act s)

/-! ### Common checks of the slips (R12) -/

/-- The port holds control. -/
def State.holds (s : State) (p : Port) : Bool :=
  decide (s.control.holder = some p)

/-- A refusal. -/
def refuse (c : Code) (s : State) : State × Answer :=
  (s, { code := c })

/-- The slot a slip names: by slot number or by subscriber number (R12); BAD-SLOT and UNKNOWN as the common checks give
them. -/
def resolveName (n : SubName) (s : State) : Except Code Nat :=
  if n.selector = 0 then
    if 16383 < n.name.toNat then .error .badSlot else .ok n.name.toNat
  else
    match Assoc.get? n.name.toNat s.numbers with
    | none => .error .unknown
    | some slot => .ok slot

/-- The common checks of R12 after NOT-READY, in their order, then the operation on the slot it names: MALFORMED for a
selector other than 0 and 1, NOT-CONTROL, BAD-SLOT, UNKNOWN. -/
def withSlot (p : Port) (n : SubName) (op : Nat → Act) : Act := fun s =>
  if n.selector ≠ 0 ∧ n.selector ≠ 1 then refuse .malformed s
  else if s.holds p = false then refuse .notControl s
  else
    match resolveName n s with
    | .error c => refuse c s
    | .ok slot => op slot s

/-- The common checks with VACANT-SLOT, then the operation on the slot and its subscriber (R12, R166). -/
def withSubscriber (p : Port) (n : SubName) (op : Nat → Subscriber → Act) : Act :=
  withSlot p n fun slot s =>
    match s.sub? slot with
    | none => refuse .vacantSlot s
    | some sub => op slot sub s

/-- MALFORMED_SLIP (R185): a slip of unknown kind, or with an operation code its kind does not know. -/
def malformedAct : Act := fun s =>
  refuse .malformed s

/-- How many operations a slip kind has, where its rule reads the operation field: SUBSCRIBER 6, TARIFF 2, PERIOD 2,
LINE 3, ZONE 4, SETTINGS 2 (R12, R169, R171, R56, R99, R189, section 11.9.4); 0 for the kinds that carry none, `none` for
an unknown kind. -/
def operationsOf (kind : Byte) : Option Nat :=
  match kind.toNat with
  | 1 => some 0 | 2 => some 0 | 3 => some 0 | 4 => some 0 | 5 => some 6 | 6 => some 2 | 7 => some 0 | 8 => some 0
  | 9 => some 2 | 10 => some 3 | 11 => some 4 | 12 => some 2 | _ => none

/-- A slip of this kind and operation is one that some rule knows. -/
def knownSlip (kind op : Byte) : Bool :=
  match operationsOf kind with
  | none => false
  | some n => n == 0 || decide (op.toNat < n)

/-- MALFORMED_SLIP (R185). A kind and operation that a rule knows is no slip of this event (log 1). -/
def execMalformedSlip (p : Port) (ix : Fin 64) (kind op : Byte) (b : Bus) (s : State) : Out :=
  if knownSlip kind op then .next s else slipEvent p ix b malformedAct s

end Sys2Proof.Machine
end

