-- ==== Sys2Proof/Decode.lean ====
section
/-! DEFINITION. How commands are spelled: no row of the table gives bits, so no table word spells one; a slip's 512 bytes
(section 11.9.4) and a register write (section 11.9.1) spell a command, and `encodeSlip` writes a slip's bytes. -/

namespace Sys2Proof

open Machine

/-- The command that a word of the opcode table spells: no row of the table gives bits, so there is none. -/
def decodeTableWord (_nbits _w : Nat) : Option Instr :=
  none

/-! ### Register writes (R182, section 11.9.1) -/

/-- The command of a CONTROL write by bits 16 and 17. DESIGN CHOICE (log 51): bits 18 to 31 are ignored. -/
def decodeControl (p : Port) (v : Word) (b : Bus) : Instr :=
  match (v.toNat / 65536) % 4 with
  | 0 => .controlTry p b
  | 1 => .controlRelease p b
  | 2 => .controlForce p b
  | _ => .controlPeer p (v.setWidth 16) b

/-- The command of a write at an offset of the register window; `none` where there is no register. -/
def decodeRegister (p : Port) (offset : Nat) (v : Word) (b : Bus) : Option Instr :=
  match offset with
  | 0x00 => some (.registerWrite p .area v b)
  | 0x04 =>
    some (if v = 1 then .scanRequest p b else if v = 0xA5 then .portReset p b else .registerWrite p .scan v b)
  | 0x08 => some (.noticeClear p v b)
  | 0x0C => some (.noticeEnableWrite p v b)
  | 0x10 => some (decodeControl p v b)
  | _ => none

/-! ### Reading a slip (section 11.9.4) -/

/-- The number in `n` bytes at offset `o`. -/
def slipNat (bs : List Byte) (o n : Nat) : Nat :=
  leNat ((bs.drop o).take n)

/-- The byte at offset `o`. -/
def slipByte (bs : List Byte) (o : Nat) : Byte :=
  bs.getD o 0

/-- Two bytes at offset `o`. -/
def slipHalf (bs : List Byte) (o : Nat) : BitVec 16 :=
  BitVec.ofNat 16 (slipNat bs o 2)

/-- Four bytes at offset `o`. -/
def slipWord (bs : List Byte) (o : Nat) : Word :=
  BitVec.ofNat 32 (slipNat bs o 4)

/-- The name field (offset 4). -/
def slipName (bs : List Byte) : Word :=
  slipWord bs 4

/-- The selector and name. -/
def slipSubName (bs : List Byte) : SubName :=
  { selector := slipByte bs 3, name := slipName bs }

/-- The SUBMIT body. -/
def decodeSubmit (bs : List Byte) : SubmitReq :=
  { number := slipName bs, cls := slipByte bs 16, kind := slipByte bs 17, clientRef := slipWord bs 20,
    expiry := slipHalf bs 24, text := (bs.drop 26).take (slipByte bs 18).toNat }

/-- The ADD body, its fields in the order of R13. -/
def decodeAdd (bs : List Byte) : AddReq :=
  { slot := slipName bs, number := slipWord bs 16, pager := BitVec.ofNat 24 (slipNat bs 20 3), plan := slipByte bs 23,
    twoWay := flagOfByte (slipByte bs 24), home := slipByte bs 25, wake := slipByte bs 26, area := slipByte bs 27,
    override := flagOfByte (slipByte bs 28), ownBase := slipHalf bs 29, ownCell := slipHalf bs 31 }

/-- A field of a MODIFY at an offset, where the mask selects it; and the offset after it. -/
def maskedField (mask : Nat) (bit n o : Nat) (bs : List Byte) : Option Nat × Nat :=
  if mask.testBit bit then (some (slipNat bs o n), o + n) else (none, o)

/-- The MODIFY body: a 2-byte change mask, and the values of the selected fields in bit order. DESIGN CHOICE (log 32): mask
bits 9 to 15, which section 11.9.4 does not name, are ignored. -/
def decodeModify (bs : List Byte) : ModReq :=
  let mask := slipNat bs 16 2
  let number := maskedField mask 0 4 18 bs
  let pager := maskedField mask 1 3 number.2 bs
  let twoWay := maskedField mask 2 1 pager.2 bs
  let plan := maskedField mask 3 1 twoWay.2 bs
  let home := maskedField mask 4 1 plan.2 bs
  let wake := maskedField mask 5 1 home.2 bs
  let area := maskedField mask 6 1 wake.2 bs
  let override := maskedField mask 7 1 area.2 bs
  let base := maskedField mask 8 2 override.2 bs
  let cell := maskedField mask 8 2 base.2 bs
  { number := number.1.map (BitVec.ofNat 32), pager := pager.1.map (BitVec.ofNat 24),
    twoWay := twoWay.1.map fun v => flagOfByte (BitVec.ofNat 8 v), plan := plan.1.map (BitVec.ofNat 8),
    home := home.1.map (BitVec.ofNat 8), wake := wake.1.map (BitVec.ofNat 8), area := area.1.map (BitVec.ofNat 8),
    override := override.1.map fun v => flagOfByte (BitVec.ofNat 8 v),
    rates := base.1.bind fun x => cell.1.map fun y => (BitVec.ofNat 16 x, BitVec.ofNat 16 y) }

/-- The TARIFF SET body, in the order of R168. -/
def decodePlan (bs : List Byte) : PlanReq :=
  { kind := slipByte bs 16, allowed := slipByte bs 17, queueLimit := slipByte bs 18, retryLimit := slipByte bs 19,
    repeatCount := slipByte bs 20, hold := slipByte bs 21, expiry := slipHalf bs 22, allowance := slipWord bs 24,
    base := slipHalf bs 28, cell := slipHalf bs 30, bands := Vector.ofFn fun i => slipByte bs (32 + i.val),
    surcharges := Vector.ofFn fun i => slipByte bs (36 + i.val), search := slipHalf bs 40,
    undelivered := slipByte bs 42, cap := slipWord bs 43, floor := slipWord bs 47, ceiling := slipWord bs 51 }

/-- The SETTINGS SET body, in the order of R189. -/
def decodeSettings (bs : List Byte) : SettingsReq :=
  { windowLength := slipHalf bs 16, clockSource := slipByte bs 18, ackDelay := slipByte bs 19,
    mergeSpan := slipByte bs 20, grantLimit := slipByte bs 21, capacity := Vector.ofFn fun i => slipByte bs (22 + i.val),
    neighbours := Vector.ofFn fun i => slipByte bs (30 + i.val), siteZone := Vector.ofFn fun i => slipByte bs (38 + i.val),
    lineThreshold := slipByte bs 54, zoneThreshold := slipByte bs 55, frameTimeout := slipByte bs 56,
    sealDelay := slipByte bs 57, tagIdle := slipByte bs 58 }

/-- The command of a SUBSCRIBER slip by its operation: ADD, MODIFY, SUSPEND, RESUME, REMOVE, READ (R12). -/
def decodeSubscriber (p : Port) (ix : Fin 64) (b : Bus) (bs : List Byte) : Instr :=
  match (slipByte bs 2).toNat with
  | 0 => .subscriberAdd p ix (decodeAdd bs) b
  | 1 => .subscriberModify p ix (slipSubName bs) (decodeModify bs) b
  | 2 => .subscriberSuspend p ix (slipSubName bs) b
  | 3 => .subscriberResume p ix (slipSubName bs) b
  | 4 => .subscriberRemove p ix (slipSubName bs) b
  | _ => .subscriberRead p ix (slipSubName bs) b

/-- The command of a TARIFF slip: SET, READ (R169). -/
def decodeTariff (p : Port) (ix : Fin 64) (b : Bus) (bs : List Byte) : Instr :=
  match (slipByte bs 2).toNat with
  | 0 => .tariffSet p ix (slipName bs) (decodePlan bs) b
  | _ => .tariffRead p ix (slipName bs) b

/-- The command of a LINE slip: OPEN, CLOSE, READ (R56). -/
def decodeLine (p : Port) (ix : Fin 64) (b : Bus) (bs : List Byte) : Instr :=
  match (slipByte bs 2).toNat with
  | 0 => .lineOpen p ix (slipName bs) b
  | 1 => .lineClose p ix (slipName bs) b
  | _ => .lineRead p ix (slipName bs) b

/-- The command of a ZONE slip: IN-SERVICE, OUT-OF-SERVICE, TEST, QUERY (R99). -/
def decodeZone (p : Port) (ix : Fin 64) (b : Bus) (bs : List Byte) : Instr :=
  match (slipByte bs 2).toNat with
  | 0 => .zoneInService p ix (slipName bs) b
  | 1 => .zoneOutOfService p ix (slipName bs) b
  | 2 => .zoneTest p ix (slipName bs) b
  | _ => .zoneQuery p ix (slipName bs) b

/-- The command of a slip whose kind and operation its rules know. -/
def decodeKnown (p : Port) (ix : Fin 64) (b : Bus) (bs : List Byte) : Instr :=
  match (slipByte bs 1).toNat with
  | 1 => .submit p ix (decodeSubmit bs) b
  | 2 => .cancel p ix (slipName bs) b
  | 3 => .query p ix (slipName bs) b
  | 4 => .release p ix (slipName bs) b
  | 5 => decodeSubscriber p ix b bs
  | 6 => decodeTariff p ix b bs
  | 7 => .credit p ix (slipSubName bs) (slipWord bs 16) b
  | 8 => .setBand p ix (slipByte bs 16) b
  | 9 => if slipByte bs 2 = 0 then .periodClose p ix b else .periodStatus p ix b
  | 10 => decodeLine p ix b bs
  | 11 => decodeZone p ix b bs
  | _ => if slipByte bs 2 = 0 then .settingsSet p ix (decodeSettings bs) b else .settingsRead p ix b

/-- The command of a POSTED slip (mark 1), read by the scan of a port at an index (R185); `none` where the slip is not
POSTED. A slip of unknown kind or operation is the MALFORMED_SLIP command. -/
def decodeSlip (p : Port) (ix : Fin 64) (b : Bus) (bs : List Byte) : Option Instr :=
  if slipByte bs 0 = 1 then
    some (if knownSlip (slipByte bs 1) (slipByte bs 2) then decodeKnown p ix b bs
      else .malformedSlip p ix (slipByte bs 1) (slipByte bs 2) b)
  else none

/-! ### Writing a slip -/

/-- The first 16 bytes of a POSTED slip. -/
def slipHead (kind op selector : Byte) (name : Word) : List Byte :=
  [1, kind, op, selector] ++ leBytes 4 name.toNat ++ List.replicate 8 0

/-- The ADD body. -/
def encodeAdd (r : AddReq) : List Byte :=
  leBytes 4 r.number.toNat ++ leBytes 3 r.pager.toNat ++ [r.plan] ++ yesNo r.twoWay ++ [r.home, r.wake, r.area] ++
  yesNo r.override ++ leBytes 2 r.ownBase.toNat ++ leBytes 2 r.ownCell.toNat

/-- A bit of the change mask. -/
def maskBit {α : Type} (bit : Nat) (x : Option α) : Nat :=
  if x.isSome then 2 ^ bit else 0

/-- The bytes of a selected value, none where the mask does not select it. -/
def maskedBytes {α : Type} (f : α → List Byte) : Option α → List Byte
  | none => []
  | some x => f x

/-- The MODIFY body. -/
def encodeModify (r : ModReq) : List Byte :=
  leBytes 2 (maskBit 0 r.number + maskBit 1 r.pager + maskBit 2 r.twoWay + maskBit 3 r.plan + maskBit 4 r.home +
    maskBit 5 r.wake + maskBit 6 r.area + maskBit 7 r.override + maskBit 8 r.rates) ++
  maskedBytes (fun v => leBytes 4 v.toNat) r.number ++ maskedBytes (fun v => leBytes 3 v.toNat) r.pager ++
  maskedBytes yesNo r.twoWay ++ maskedBytes (fun v => [v]) r.plan ++ maskedBytes (fun v => [v]) r.home ++
  maskedBytes (fun v => [v]) r.wake ++ maskedBytes (fun v => [v]) r.area ++ maskedBytes yesNo r.override ++
  maskedBytes (fun v => leBytes 2 v.1.toNat ++ leBytes 2 v.2.toNat) r.rates

/-- The TARIFF SET body. -/
def encodePlan (r : PlanReq) : List Byte :=
  [r.kind, r.allowed, r.queueLimit, r.retryLimit, r.repeatCount, r.hold] ++ leBytes 2 r.expiry.toNat ++
  leBytes 4 r.allowance.toNat ++ leBytes 2 r.base.toNat ++ leBytes 2 r.cell.toNat ++ r.bands.toList ++
  r.surcharges.toList ++ leBytes 2 r.search.toNat ++ [r.undelivered] ++ leBytes 4 r.cap.toNat ++
  leBytes 4 r.floor.toNat ++ leBytes 4 r.ceiling.toNat

/-- The SETTINGS SET body. -/
def encodeSettings (r : SettingsReq) : List Byte :=
  leBytes 2 r.windowLength.toNat ++ [r.clockSource, r.ackDelay, r.mergeSpan, r.grantLimit] ++ r.capacity.toList ++
  r.neighbours.toList ++ r.siteZone.toList ++ [r.lineThreshold, r.zoneThreshold, r.frameTimeout, r.sealDelay, r.tagIdle]

/-- The SUBMIT body: class, kind, text length, a zero, client reference, expiry override, text. -/
def encodeSubmit (r : SubmitReq) : List Byte :=
  [r.cls, r.kind, BitVec.ofNat 8 r.text.length, 0] ++ leBytes 4 r.clientRef.toNat ++ leBytes 2 r.expiry.toNat ++ r.text

/-- The bytes of the slip that spells a command, up to the end of its body; `none` for a command that no slip spells. -/
def encodeSlip : Instr → Option (List Byte)
  | .submit _ _ r _ => some (slipHead 1 0 0 r.number ++ encodeSubmit r)
  | .cancel _ _ n _ => some (slipHead 2 0 0 n)
  | .query _ _ n _ => some (slipHead 3 0 0 n)
  | .release _ _ n _ => some (slipHead 4 0 0 n)
  | .subscriberAdd _ _ r _ => some (slipHead 5 0 0 r.slot ++ encodeAdd r)
  | .subscriberModify _ _ n r _ => some (slipHead 5 1 n.selector n.name ++ encodeModify r)
  | .subscriberSuspend _ _ n _ => some (slipHead 5 2 n.selector n.name)
  | .subscriberResume _ _ n _ => some (slipHead 5 3 n.selector n.name)
  | .subscriberRemove _ _ n _ => some (slipHead 5 4 n.selector n.name)
  | .subscriberRead _ _ n _ => some (slipHead 5 5 n.selector n.name)
  | .tariffSet _ _ n r _ => some (slipHead 6 0 0 n ++ encodePlan r)
  | .tariffRead _ _ n _ => some (slipHead 6 1 0 n)
  | .credit _ _ n amount _ => some (slipHead 7 0 n.selector n.name ++ leBytes 4 amount.toNat)
  | .setBand _ _ band _ => some (slipHead 8 0 0 0 ++ [band])
  | .periodClose _ _ _ => some (slipHead 9 0 0 0)
  | .periodStatus _ _ _ => some (slipHead 9 1 0 0)
  | .lineOpen _ _ n _ => some (slipHead 10 0 0 n)
  | .lineClose _ _ n _ => some (slipHead 10 1 0 n)
  | .lineRead _ _ n _ => some (slipHead 10 2 0 n)
  | .zoneInService _ _ n _ => some (slipHead 11 0 0 n)
  | .zoneOutOfService _ _ n _ => some (slipHead 11 1 0 n)
  | .zoneTest _ _ n _ => some (slipHead 11 2 0 n)
  | .zoneQuery _ _ n _ => some (slipHead 11 3 0 n)
  | .settingsSet _ _ r _ => some (slipHead 12 0 0 0 ++ encodeSettings r)
  | .settingsRead _ _ _ => some (slipHead 12 1 0 0)
  | .malformedSlip _ _ kind op _ => some (slipHead kind op 0 0)
  | _ => none

end Sys2Proof
end

