-- ==== Sys2Proof/Machine/Intake.lean ====
section
/-! DEFINITION. Message intake (chapter 3): degrading, the acceptance checks, acceptance (R30), the SUBMIT, CANCEL, QUERY
and RELEASE slips. -/

namespace Sys2Proof.Machine

/-! ### Degrading and preparation (R54, R57) -/

/-- A submission after degrading or preparation. -/
structure Prepared' where
  cls       : MsgClass
  kind      : MsgKind
  text      : List Byte
  truncated : Bool
  altered   : Bool
  deriving DecidableEq, Repr

/-- The text of a TEXT or NUMERIC submission cut to `limit` characters and substituted by `f`; an empty one is carried
as TONE (R54). -/
def degradeText (kind : MsgKind) (limit : Nat) (f : Byte → Byte) (cls : MsgClass) (altered : Bool) (text : List Byte) :
    Prepared' :=
  let cut := text.take limit
  let sub := cut.map f
  { cls := cls, kind := if sub = [] then .tone else kind, text := sub, truncated := decide (limit < text.length),
    altered := altered || decide (sub ≠ cut) || decide (sub = []) }

/-- Degrading of a line SUBMIT, and preparation of a slip (R54, R57); `none` for an unknown kind code (BAD-KIND). -/
def degrade (clsCode kindCode : Byte) (text : List Byte) : Option Prepared' :=
  let cls := MsgClass.ofCode clsCode.toNat
  let altered := decide (3 < clsCode.toNat)
  match MsgKind.ofCode? kindCode.toNat with
  | none => none
  | some .tone =>
    some { cls := cls, kind := .tone, text := [], truncated := false, altered := altered || decide (text ≠ []) }
  | some .numeric => some (degradeText .numeric 40 numericChar cls altered text)
  | some .text => some (degradeText .text 240 textChar cls altered text)

/-! ### The acceptance checks (R59 to R62) -/

/-- A submission that reaches the acceptance checks: who sent it, its client reference, the subscriber number, the
expiry override (0 for none) and the message after degrading. -/
structure Submission where
  origin    : Origin
  clientRef : Word
  number    : Nat
  expiry    : Nat
  body      : Prepared'
  deriving DecidableEq, Repr

/-- The refusals of the acceptance checks (R59). -/
inductive Reject where
  | unknown | suspended | kindNotAllowed | queueFull | noRoom
  | noCredit (estimate : Nat)
  deriving DecidableEq, Repr

/-- The plan allows a message kind (R60). -/
def Plan.allows (pl : Plan) : MsgKind → Bool
  | .tone => pl.allowTone
  | .numeric => pl.allowNumeric
  | .text => pl.allowText

/-- The store has room for a text of this length (R25). -/
def State.hasRoom (s : State) (len : Nat) : Bool :=
  decide (1 ≤ s.freePlaces ∧ blocksOf len ≤ s.freeBlocks)

/-- The expiry windows of an override, and whether it was clamped (R58). -/
def expiryOf (pl : Plan) (override : Nat) : Nat × Bool :=
  if override = 0 then (pl.expiry, false) else clampTo 96 pl.expiry override

/-- The value after a serial (R29). -/
def serialAfter (n : Nat) : Nat :=
  if n = 4294967295 then 1 else n + 1

/-- The first value from `n` on that no record in use holds (R29); `fuel` bounds the values passed over. -/
def freeSerial (s : State) : Nat → Nat → Nat
  | 0, n => n
  | fuel + 1, n => if (s.msg? n).isSome then freeSerial s fuel (serialAfter n) else n

/-- The first sequence from `n` on that none of the sequences `used` equals (R31). -/
def freeSeq (used : List Nat) : Nat → Nat → Nat
  | 0, n => n
  | fuel + 1, n => if n ∈ used then freeSeq used fuel ((n + 1) % 64) else n

/-- The class as accepted: ROUTINE on a capped postpaid account (R62). -/
def acceptedClass (pl : Plan) (sub : Subscriber) (c : MsgClass) : MsgClass :=
  if pl.kind = .postpaid ∧ sub.account.postpaid = .capped then .routine else c

/-- The record that an acceptance creates (R30). -/
def newMessage (s : State) (slot : Nat) (sub : Subscriber) (r : Submission) : Message :=
  let pl := s.plan sub.plan
  let cls := acceptedClass pl sub r.body.cls
  let cells := cellsOf r.body.kind r.body.text.length
  { serial := freeSerial s (s.msgs.length + 1) s.nextSerial, slot := slot, origin := r.origin, clientRef := r.clientRef,
    kind := r.body.kind, cls := cls, origCls := cls, length := r.body.text.length, blocks := chainOf r.body.text,
    cells := cells, seq := freeSeq ((s.queueMsgs slot).map Message.seq) 64 sub.nextSeq,
    state := .waiting, round := 1, attempts := 0, attemptZones := 0, sentZones := 0, firstZones := 0, zoneSends := 0,
    transmitted := false, due := some (sub.wakeAt (s.now + 2)), deadline := none,
    expiry := s.now + BitVec.ofNat 32 (expiryOf pl r.expiry).1, accepted := s.now, deferrals := 0, band := s.band,
    estimate := if pl.kind = .prepaid then some (estimateOf sub pl s.band cls cells) else none,
    repeats := if sub.twoWay then 0 else pl.repeatCount, backoff := 0, disposition := none, charge := none,
    allowanceUsed := none, owesOutcome := false, owesDelivery := false, finalWindow := none }

/-- Acceptance (R30, R62): the record is created, the room taken, the queue and both calendars extended, the next serial
and sequence advanced, and the estimate added to committed. -/
def acceptMessage (m : Message) (s : State) : State :=
  let s :=
    { s with msgs := Assoc.put m.serial m s.msgs, freePlaces := s.freePlaces - 1,
             freeBlocks := s.freeBlocks - m.blocks.length, nextSerial := serialAfter m.serial,
             dueCal := match m.due with
               | some w => calAdd w m.serial s.dueCal
               | none => s.dueCal,
             expiryCal := calAdd m.expiry m.serial s.expiryCal }
  s.modSub m.slot fun x =>
    { x with queue := x.queue ++ [m.serial], nextSeq := (m.seq + 1) % 64,
             account := { x.account with committed := x.account.committed + m.estimate.getD 0 } }

/-- The subscriber the submission names (acceptance check 2). -/
def submissionSub (r : Submission) (s : State) : Option (Nat × Subscriber) :=
  match Assoc.get? r.number s.numbers with
  | none => none
  | some slot => (s.sub? slot).map fun sub => (slot, sub)

/-- Acceptance checks 2 to 7 in their order (R59): the first that fails, or the message that is created. -/
def checkSubmission (r : Submission) (s : State) : Except Reject Message :=
  match submissionSub r s with
  | none => .error .unknown
  | some (slot, sub) =>
    let pl := s.plan sub.plan
    if sub.state = .suspended then .error .suspended
    else if pl.allows r.body.kind = false then .error .kindNotAllowed
    else if pl.queueLimit ≤ sub.queue.length then .error .queueFull
    else if s.hasRoom r.body.text.length = false then .error .noRoom
    else
      let m := newMessage s slot sub r
      match m.estimate with
      | some e =>
        if sub.account.balance - sub.account.committed - e < pl.floor then .error (.noCredit e) else .ok m
      | none => .ok m

/-- The class was limited at acceptance (R62). -/
def classLimited (r : Submission) (m : Message) : Bool :=
  decide (m.cls ≠ r.body.cls)

/-! ### The SUBMIT slip (R57, R58, R63) -/

/-- The slip code of a refusal (R59). -/
def Reject.code : Reject → Code
  | .unknown => .unknown
  | .suspended => .suspended
  | .kindNotAllowed => .kindNotAllowed
  | .queueFull => .queueFull
  | .noRoom => .storeFull
  | .noCredit _ => .noCredit

/-- The fields of a refusal: NO-CREDIT carries the estimate at offset 22 (section 11.9.4). DESIGN CHOICE (log 34): the six
bytes before it, which the manual leaves open, are written 0. -/
def Reject.fields : Reject → List Byte
  | .noCredit e => [0, 0, 0, 0, 0, 0] ++ leBytes 4 e
  | .unknown => []
  | .suspended => []
  | .kindNotAllowed => []
  | .queueFull => []
  | .noRoom => []

/-- Either clamp of the expiry override sets CLAMPED, once check 2 has found the subscriber (R58). -/
def submitClamped (r : Submission) (s : State) : Bool :=
  match submissionSub r s with
  | none => false
  | some (_, sub) => (expiryOf (s.plan sub.plan) r.expiry).2

/-- The fields of an ACCEPTED answer (R63, section 11.9.4). -/
def acceptedFields (m : Message) : List Byte :=
  leBytes 4 m.serial ++ leBytes 1 m.seq ++ [0] ++ leBytes 4 (m.estimate.getD 0) ++
    leBytes 4 ((m.due.getD 0).toNat) ++ leBytes 4 m.expiry.toNat

/-- The act of a SUBMIT slip (R57, R59, R63): BAD-KIND, TOO-LONG, preparation, then the acceptance checks. -/
def submitAct (p : Port) (q : SubmitReq) : Act := fun s =>
  match degrade q.cls q.kind q.text with
  | none => refuse .badKind s
  | some d =>
    if d.truncated then refuse .tooLong s
    else
      let r : Submission :=
        { origin := .port p, clientRef := q.clientRef, number := q.number.toNat, expiry := q.expiry.toNat, body := d }
      match checkSubmission r s with
      | .error e =>
        (s, { code := e.code, flags := slipFlags (submitClamped r s) d.altered false false, fields := e.fields })
      | .ok m =>
        (acceptMessage m s,
         { code := .accepted, flags := slipFlags (submitClamped r s) d.altered (classLimited r m) false,
           fields := acceptedFields m })

/-- SUBMIT (R57). -/
def execSubmit (p : Port) (ix : Fin 64) (q : SubmitReq) (b : Bus) (s : State) : Out :=
  slipEvent p ix b (submitAct p q) s

/-! ### CANCEL, QUERY and RELEASE (R65, R66, R68, R148) -/

/-- The posting port may act on the message: it holds control, or it is the message's origin (R65, R148). -/
def mayActOn (p : Port) (m : Message) (s : State) : Bool :=
  s.holds p || decide (m.origin = .port p)

/-- What a CANCEL does before the message is made FINAL: a LOADED message with an acknowledged load counts as
transmitted (R66). -/
def markTransmitted (serial : Nat) (m : Message) (s : State) : State :=
  match m.state, m.due with
  | .loaded, some w =>
    if acknowledgedWith serial w s then s.modMsg serial fun x => { x with transmitted := true } else s
  | _, _ => s

/-- The code of an optional disposition; a message that has just become FINAL has one. -/
def dispositionBytes (d : Option Disposition) : List Byte :=
  leBytes 1 ((d.map Disposition.toNat).getD 0)

/-- The act of a CANCEL slip (R65, R66): UNKNOWN, NOT-OWNER, TOO-LATE, then FINAL CANCELLED. -/
def cancelAct (p : Port) (serial : Word) : Act := fun s =>
  match s.msg? serial.toNat with
  | none => refuse .unknown s
  | some m =>
    if mayActOn p m s = false then refuse .notOwner s
    else if m.state = .final then refuse .tooLate s
    else
      let t := finalize serial.toNat .cancelled (markTransmitted serial.toNat m s)
      match t.msg? serial.toNat with
      | none => refuse .unknown t
      | some f =>
        (t, { code := .done,
              fields := leBytes 1 m.state.toNat ++ dispositionBytes f.disposition ++ leBytes 4 (f.charge.getD 0) ++
                yesNo f.transmitted })

/-- CANCEL (R65). -/
def execCancel (p : Port) (ix : Fin 64) (serial : Word) (b : Bus) (s : State) : Out :=
  slipEvent p ix b (cancelAct p serial) s

/-- A window count as four bytes. -/
def winBytes (w : Win) : List Byte :=
  leBytes 4 w.toNat

/-- The fields of a QUERY answer, in the order of R68. DESIGN CHOICE (log 35): the reports pending are one byte, bit 0
OUTCOME and bit 1 DELIVERY. -/
def queryFields (m : Message) : List Byte :=
  leBytes 1 m.state.toNat ++ leBytes 2 m.slot ++ leBytes 1 m.origin.toNat ++ leBytes 1 m.cls.toNat ++
  leBytes 1 m.origCls.toNat ++ leBytes 1 m.round ++ leBytes 1 m.attempts ++ leBytes 1 m.zoneSends ++ [m.sentZones] ++
  yesNo m.transmitted ++ optBytes winBytes m.due ++ optBytes winBytes m.deadline ++ winBytes m.expiry ++
  leBytes 1 m.deferrals ++
  (if m.state = .final then
    dispositionBytes m.disposition ++ leBytes 4 (m.charge.getD 0) ++
      leBytes 1 ((if m.owesOutcome then 1 else 0) + (if m.owesDelivery then 2 else 0))
   else [])

/-- The act of a QUERY slip (R68). -/
def queryAct (serial : Word) : Act := fun s =>
  match s.msg? serial.toNat with
  | none => refuse .unknown s
  | some m => (s, { code := .done, fields := queryFields m })

/-- QUERY (R68). -/
def execQuery (p : Port) (ix : Fin 64) (serial : Word) (b : Bus) (s : State) : Out :=
  slipEvent p ix b (queryAct serial) s

/-- The act of a RELEASE slip (R148): UNKNOWN, NOT-OWNER, TOO-LATE, NOT-HELD, then a new round or LAST-ROUND. -/
def releaseAct (p : Port) (serial : Word) : Act := fun s =>
  match s.msg? serial.toNat with
  | none => refuse .unknown s
  | some m =>
    if mayActOn p m s = false then refuse .notOwner s
    else
      match m.state with
      | .final => refuse .tooLate s
      | .held =>
        match s.sub? m.slot with
        | none => refuse .unknown s
        | some sub =>
          if m.round < 4 then
            let w := sub.wakeAt (s.now + 2)
            (releaseHeld serial.toNat w s, { code := .done, fields := leBytes 1 (m.round + 1) ++ winBytes w })
          else
            let t := finalize serial.toNat .undeliverable s
            ({ t with retryCounts.exhaustions := satAdd 65535 t.retryCounts.exhaustions 1 }, { code := .lastRound })
      | .waiting => (s, { code := .notHeld, fields := leBytes 1 m.state.toNat })
      | .loaded => (s, { code := .notHeld, fields := leBytes 1 m.state.toNat })
      | .sent => (s, { code := .notHeld, fields := leBytes 1 m.state.toNat })
      | .retryWait => (s, { code := .notHeld, fields := leBytes 1 m.state.toNat })

/-- RELEASE (R148). -/
def execRelease (p : Port) (ix : Fin 64) (serial : Word) (b : Bus) (s : State) : Out :=
  slipEvent p ix b (releaseAct p serial) s

end Sys2Proof.Machine
end

