-- ==== Sys2Proof/Machine/Operands.lean ====
section
/-! DEFINITION. The operands of slips: numbers that name a line, a zone or a plan, the ranges of a subscriber's fields,
and the values of a plan and of the settings with their clamps (R13, R15, R56, R99, R168, R169, R189). -/

namespace Sys2Proof.Machine

/-- A line or zone number that exists: 0 to 7 (R56, R99). -/
def asFin8 (w : Word) : Option (Fin 8) :=
  if h : w.toNat < 8 then some ⟨w.toNat, h⟩ else none

/-- A plan number that exists: 0 to 15 (R169). -/
def asPlan (n : Nat) : Option (Fin 16) :=
  if h : n < 16 then some ⟨n, h⟩ else none

/-- A subscriber number out of range: 0 or over 99,999,999 (R13). -/
def badNumber (w : Word) : Bool :=
  decide (w = 0 ∨ 99999999 < w.toNat)

/-- A pager number out of range: 0; a 24-bit field cannot pass 16,777,215 (R13). -/
def badPager (w : BitVec 24) : Bool :=
  decide (w = 0)

/-- A home window clamped to 0–95 (R13). -/
def homeOf (b : Byte) : Nat × Bool :=
  clampTo 0 95 b.toNat

/-- A wake class clamped to 0–3 (R13). -/
def wakeOf (b : Byte) : Fin 4 × Bool :=
  if h : b.toNat < 4 then (⟨b.toNat, h⟩, false) else (3, true)

/-- A band clamped to 0–3 (R170). -/
def bandOf (b : Byte) : Fin 4 × Bool :=
  wakeOf b

/-- A zone of the site-to-zone map, clamped to 0–7 (R189). -/
def zoneOf (b : Byte) : Fin 8 × Bool :=
  if h : b.toNat < 8 then (⟨b.toNat, h⟩, false) else (7, true)

/-- A code of two, whose greater code is taken for a byte beyond it (R169, log 14): the value is whether it is 1. -/
def codeOf (b : Byte) : Bool × Bool :=
  (decide (b ≠ 0), decide (1 < b.toNat))

/-- The four places of a plan's vectors. -/
def all4 : List (Fin 4) := [0, 1, 2, 3]

/-- The plan that a TARIFF SET stores, each value outside its range at the nearer end of it (R168, R169). The allowed
kinds are the low three bits: TONE, NUMERIC, TEXT (log 14). -/
def planOf (r : PlanReq) : Plan :=
  { kind := if (codeOf r.kind).1 then .postpaid else .prepaid,
    allowTone := r.allowed.getLsbD 0, allowNumeric := r.allowed.getLsbD 1, allowText := r.allowed.getLsbD 2,
    queueLimit := (clampTo 1 16 r.queueLimit.toNat).1, retryLimit := (clampTo 0 7 r.retryLimit.toNat).1,
    repeatCount := (clampTo 0 3 r.repeatCount.toNat).1, hold := (codeOf r.hold).1,
    expiry := (clampTo 96 65535 r.expiry.toNat).1, allowance := (clampTo 0 1048575 r.allowance.toNat).1,
    base := r.base.toNat, cell := r.cell.toNat, bands := Vector.ofFn fun i => r.bands[i].toNat,
    surcharges := Vector.ofFn fun i => (clampTo 0 200 r.surcharges[i].toNat).1, search := r.search.toNat,
    undelivered := (clampTo 0 100 r.undelivered.toNat).1, cap := (clampTo 0 16777215 r.cap.toNat).1,
    floor := (clampInt (-8388608) 8388607 r.floor.toInt).1, ceiling := r.ceiling.toNat }

/-- A value of a TARIFF SET lay outside its range (R169). -/
def planClamped (r : PlanReq) : Bool :=
  (codeOf r.kind).2 || (clampTo 1 16 r.queueLimit.toNat).2 || (clampTo 0 7 r.retryLimit.toNat).2 ||
  (clampTo 0 3 r.repeatCount.toNat).2 || (codeOf r.hold).2 || (clampTo 96 65535 r.expiry.toNat).2 ||
  (clampTo 0 1048575 r.allowance.toNat).2 || (all4.any fun i => (clampTo 0 200 r.surcharges[i].toNat).2) ||
  (clampTo 0 100 r.undelivered.toNat).2 || (clampTo 0 16777215 r.cap.toNat).2 ||
  (clampInt (-8388608) 8388607 r.floor.toInt).2

/-- The clock source of a code (R189); a code that is neither is answered MALFORMED. -/
def ClockSource.ofCode? (b : Byte) : Option ClockSource :=
  if b = 0 then some .internal else if b = 1 then some .strobe else none

/-- The settings that a SETTINGS SET stores, each value outside its range at the nearer end of it (R189). -/
def settingsOf (src : ClockSource) (r : SettingsReq) : Settings :=
  { windowLength := (clampTo 1000 4000 r.windowLength.toNat).1, clockSource := src,
    ackDelay := (clampTo 2 15 r.ackDelay.toNat).1, mergeSpan := (clampTo 1 4 r.mergeSpan.toNat).1,
    grantLimit := (clampTo 0 15 r.grantLimit.toNat).1,
    capacity := Vector.ofFn fun i => (clampTo 40 160 r.capacity[i].toNat).1,
    neighbours := r.neighbours, siteZone := Vector.ofFn fun i => (zoneOf r.siteZone[i]).1,
    lineThreshold := (clampTo 0 15 r.lineThreshold.toNat).1, zoneThreshold := (clampTo 0 15 r.zoneThreshold.toNat).1,
    frameTimeout := (clampTo 1 10 r.frameTimeout.toNat).1, sealDelay := (clampTo 1 64 r.sealDelay.toNat).1,
    tagIdle := (clampTo 1 255 r.tagIdle.toNat).1 }

/-- A value of a SETTINGS SET lay outside its range (R189). -/
def settingsClamped (r : SettingsReq) : Bool :=
  (clampTo 1000 4000 r.windowLength.toNat).2 || (clampTo 2 15 r.ackDelay.toNat).2 ||
  (clampTo 1 4 r.mergeSpan.toNat).2 || (clampTo 0 15 r.grantLimit.toNat).2 ||
  (all8.any fun i => (clampTo 40 160 r.capacity[i].toNat).2) || (all16.any fun i => (zoneOf r.siteZone[i]).2) ||
  (clampTo 0 15 r.lineThreshold.toNat).2 || (clampTo 0 15 r.zoneThreshold.toNat).2 ||
  (clampTo 1 10 r.frameTimeout.toNat).2 || (clampTo 1 64 r.sealDelay.toNat).2 || (clampTo 1 255 r.tagIdle.toNat).2

end Sys2Proof.Machine
end

