-- ==== Sys2Proof/Machine/Accounts.lean ====
section
/-! DEFINITION. The account unit's slips and the period close walk (chapter 10): CREDIT, TARIFF, SET BAND, PERIOD,
PERIOD_WALK_STEP and PERIOD_END. -/

namespace Sys2Proof.Machine

/-! ### CREDIT (R166) -/

/-- The act of a CREDIT (R166): the common checks, NOT-PREPAID, then the balance with its saturation. -/
def creditAct (p : Port) (n : SubName) (amount : Word) : Act :=
  withSubscriber p n fun slot x s =>
    if (s.plan x.plan).kind = .postpaid then refuse .notPrepaid s
    else
      let exact := x.account.balance + amount.toInt
      (s.modSub slot fun y => { y with account := { y.account with balance := satBalance exact } },
       { code := .done, flags := slipFlags false false false (decide (satBalance exact ≠ exact)),
         fields := leBytes 4 (signed32 (satBalance exact)) ++ leBytes 4 x.account.committed })

/-- CREDIT (R166). -/
def execCredit (p : Port) (ix : Fin 64) (n : SubName) (amount : Word) (b : Bus) (s : State) : Out :=
  slipEvent p ix b (creditAct p n amount) s

/-! ### TARIFF and SET BAND (R169, R170) -/

/-- The values of a plan in the order of R168 (log 15). -/
def Plan.bytes (pl : Plan) : List Byte :=
  leBytes 1 pl.kind.toNat ++
  leBytes 1 ((if pl.allowTone then 1 else 0) + (if pl.allowNumeric then 2 else 0) + (if pl.allowText then 4 else 0)) ++
  leBytes 1 pl.queueLimit ++ leBytes 1 pl.retryLimit ++ leBytes 1 pl.repeatCount ++ yesNo pl.hold ++
  leBytes 2 pl.expiry ++ leBytes 4 pl.allowance ++ leBytes 2 pl.base ++ leBytes 2 pl.cell ++
  pl.bands.toList.flatMap (leBytes 1) ++ pl.surcharges.toList.flatMap (leBytes 1) ++ leBytes 2 pl.search ++
  leBytes 1 pl.undelivered ++ leBytes 4 pl.cap ++ leBytes 4 (signed32 pl.floor) ++ leBytes 4 pl.ceiling

/-- The slots whose subscriber has a plan. -/
def State.onPlan (s : State) (pl : Fin 16) (slot : Nat) : Bool :=
  match s.sub? slot with
  | none => false
  | some x => decide (x.plan = pl)

/-- Replaces a plan, and trims the attempts of its subscribers' queued messages (R169, R138). -/
def setPlan (n : Fin 16) (pl : Plan) (s : State) : State :=
  trimAttempts (s.onPlan n) pl.retryLimit { s with plans := s.plans.set n pl }

/-- The act of a TARIFF SET (R169): BAD-PLAN, NOT-CONTROL, then the whole plan. -/
def tariffSetAct (p : Port) (plan : Word) (r : PlanReq) : Act := fun s =>
  match asPlan plan.toNat with
  | none => refuse .badPlan s
  | some n =>
    if s.holds p = false then refuse .notControl s
    else
      (setPlan n (planOf r) s,
       { code := .done, flags := slipFlags (planClamped r) false false false, fields := (planOf r).bytes })

/-- TARIFF SET (R169). -/
def execTariffSet (p : Port) (ix : Fin 64) (plan : Word) (r : PlanReq) (b : Bus) (s : State) : Out :=
  slipEvent p ix b (tariffSetAct p plan r) s

/-- The act of a TARIFF READ (R169), from either port. -/
def tariffReadAct (plan : Word) : Act := fun s =>
  match asPlan plan.toNat with
  | none => refuse .badPlan s
  | some n => (s, { code := .done, fields := (s.plan n).bytes })

/-- TARIFF READ (R169). -/
def execTariffRead (p : Port) (ix : Fin 64) (plan : Word) (b : Bus) (s : State) : Out :=
  slipEvent p ix b (tariffReadAct plan) s

/-- The act of a SET BAND (R170). -/
def setBandAct (p : Port) (band : Byte) : Act := fun s =>
  if s.holds p = false then refuse .notControl s
  else
    ({ s with band := (bandOf band).1 },
     { code := .done, flags := slipFlags (bandOf band).2 false false false, fields := leBytes 1 (bandOf band).1.val })

/-- SET BAND (R170). -/
def execSetBand (p : Port) (ix : Fin 64) (band : Byte) (b : Bus) (s : State) : Out :=
  slipEvent p ix b (setBandAct p band) s

/-! ### PERIOD (R171) -/

/-- The act of a PERIOD CLOSE (R171). -/
def periodCloseAct (p : Port) : Act := fun s =>
  if s.holds p = false then refuse .notControl s
  else if s.walk.running then refuse .walkRunning s
  else
    let next := s.globalPeriod + 1
    ({ s with globalPeriod := next, walk := { running := true, position := 0, newPeriod := next, count := 0 } },
     { code := .started, fields := [next] })

/-- PERIOD CLOSE (R171). -/
def execPeriodClose (p : Port) (ix : Fin 64) (b : Bus) (s : State) : Out :=
  slipEvent p ix b (periodCloseAct p) s

/-- The fields of a PERIOD STATUS: the global period and the walk state, in the order of R171 (log 15). -/
def periodFields (s : State) : List Byte :=
  [s.globalPeriod] ++ yesNo s.walk.running ++ leBytes 2 s.walk.position ++ [s.walk.newPeriod] ++
  leBytes 2 s.walk.count ++ leBytes 1 s.pause.toNat

/-- The act of a PERIOD STATUS (R171), from either port. -/
def periodStatusAct : Act := fun s =>
  (s, { code := .done, fields := periodFields s })

/-- PERIOD STATUS (R171). -/
def execPeriodStatus (p : Port) (ix : Fin 64) (b : Bus) (s : State) : Out :=
  slipEvent p ix b periodStatusAct s

/-! ### The period close walk (R172, R173) -/

/-- The PERIOD-TOTAL record of a slot, with the values before the visit (R172). -/
def periodTotalOf (slot : Nat) (x : Subscriber) : PeriodTotal :=
  { slot := slot, number := x.number, period := x.account.period, balance := x.account.balance,
    committed := x.account.committed, usage := x.account.usage, allowance := x.account.allowance,
    periodCharge := x.account.periodCharge, periodCount := x.account.periodCount,
    periodAllowance := x.account.periodAllowance, postpaid := x.account.postpaid }

/-- The account after the visit (R172 steps 2 to 4); balance and committed are carried over. -/
def openPeriod (pl : Plan) (period : BitVec 8) (a : Account) : Account :=
  { a with usage := 0, periodCharge := 0, periodCount := 0, periodAllowance := 0, allowance := pl.allowance,
           postpaid := .opened, period := period }

/-- Visits the slot at the walk position, or passes over it (R172). -/
def visitSlot (slot : Nat) (s : State) : State :=
  match s.sub? slot with
  | none => s
  | some x =>
    if x.account.period = s.walk.newPeriod then s
    else
      let s := emitAccounting (.periodTotal (periodTotalOf slot x)) s
      let s := s.modSub slot fun y => { y with account := openPeriod (s.plan y.plan) s.walk.newPeriod y.account }
      { s with walk.count := s.walk.count + 1 }

/-- PERIOD_WALK_STEP (R172): one step, taken while the walk runs short of 16,384 and is not paused. -/
def execPeriodWalkStep (b : Bus) (s : State) : Out :=
  if s.walk.running ∧ s.walk.position < 16384 ∧ s.pause = .none then
    let t := visitSlot s.walk.position s
    finish b s { t with walk.position := s.walk.position + 1 }
  else .next s

/-- PERIOD_END (R173): at position 16,384, under the same pause conditions, the walk emits PERIOD-END and stops. -/
def execPeriodEnd (b : Bus) (s : State) : Out :=
  if s.walk.running ∧ s.walk.position = 16384 ∧ s.pause = .none then
    let t := emitAccounting (.periodEnd s.walk.newPeriod s.walk.count s.now) s
    finish b s { t with walk.running := false }
  else .next s

end Sys2Proof.Machine
end

