-- ==== Sys2Proof/Machine/ClockUnit.lean ====
section
/-! DEFINITION. The window clock (chapter 4): the window start, its three causes, and the cool-down list's reaction. -/

namespace Sys2Proof.Machine

/-- What ended a window (R77). -/
inductive WindowEnd where
  | timer | strobe | tolerance
  deriving DecidableEq, Repr

/-- The clock state of the new window, and the cause of its STATE-CHANGE record where there is one (R77, R78). -/
def nextClockState (src : ClockSource) (ended : ClockState) (e : WindowEnd) : ClockState × Option ChangeCause :=
  match src, ended, e with
  | .internal, .internal, _ => (.internal, none)
  | .internal, .strobe, _ => (.internal, some .sourceSetting)
  | .internal, .fallback, _ => (.internal, some .sourceSetting)
  | .strobe, .internal, _ => (.strobe, some .sourceSetting)
  | .strobe, .strobe, .tolerance => (.fallback, some .tolerance)
  | .strobe, .strobe, _ => (.strobe, none)
  | .strobe, .fallback, .strobe => (.strobe, some .strobe)
  | .strobe, .fallback, _ => (.fallback, none)

/-- Every reaction to a window start is to be taken; those to a sweep start where the new count is a multiple of 96
(R71, R72). -/
def Due.windowStart (d : Due) (now : Win) : Due :=
  if now.toNat % 96 = 0 then Due.all
  else { Due.all with idleRelease := d.idleRelease, lineSweep := d.lineSweep, zoneSweep := d.zoneSweep }

/-- A port unit's reactions to a window start are to be taken. -/
def PortUnit.windowStart (u : PortUnit) : PortUnit :=
  { u with scanDue := true, sealDue := true, headerDue := true }

/-- The window start event (R71): the count, the timer, the length in force and the clock state of the new window, with
the record and notice of a change (R77, R78). DESIGN CHOICE (log 43): IN-SERVICE and ON-AIR, which a clock has not, are 0 in
its record. -/
def windowStart (e : WindowEnd) (s : State) : State :=
  let next := nextClockState s.settings.clockSource s.clock.state e
  let old := s.clock.state
  let s :=
    { s with
      clock :=
        { s.clock with
          now := s.clock.now + 1, timer := 0, length := s.settings.windowLength, state := next.1,
          fallbacks := if next.2 = some .tolerance then satAdd 65535 s.clock.fallbacks 1 else s.clock.fallbacks },
      due := s.due.windowStart (s.clock.now + 1),
      portA := s.portA.windowStart, portB := s.portB.windowStart }
  match next.2 with
  | none => s
  | some cause =>
    stateChange
      { source := .clock, old := old.toNat, new := next.1.toNat, cause := cause, inService := false, onAir := false,
        window := s.now } .clock s

/-- The first whole millisecond at which the strobe tolerance has run: the least `t` with `4 t ≥ 5 length` (R70). -/
def toleranceMs (length : Nat) : Nat :=
  (5 * length + 3) / 4

/-- WINDOW_TIMER_EXPIRY (R73, R76): in INTERNAL or FALLBACK the timer reaches the length in force and the window ends.
In STROBE the timer does not end a window (R74), and the event does not apply. -/
def execWindowTimerExpiry (b : Bus) (s : State) : Out :=
  match s.clock.state with
  | .internal => finish b s (windowStart .timer (s.passMs (s.clock.length - s.clock.timer)))
  | .fallback => finish b s (windowStart .timer (s.passMs (s.clock.length - s.clock.timer)))
  | .strobe => .next s

/-- TOLERANCE_EXPIRY (R75): in STROBE the timer reaches the strobe tolerance and the window ends. In another state the
tolerance does not apply. -/
def execToleranceExpiry (b : Bus) (s : State) : Out :=
  match s.clock.state with
  | .strobe => finish b s (windowStart .tolerance (s.passMs (toleranceMs s.clock.length - s.clock.timer)))
  | .internal => .next s
  | .fallback => .next s

/-- STROBE (R73, R74, R76): a strobe arrives at timer reading `t` (log 4). It is counted; in INTERNAL it has no other
effect, and else it is early or ends the window. DESIGN CHOICE (log 36): so does a strobe whose reading lies past the moment
at which the timer or the tolerance would have ended the window. -/
def execStrobe (t : Nat) (b : Bus) (s : State) : Out :=
  let s' := s.passMs (t - s.clock.timer)
  let s' := { s' with clock.strobesHeard := satAdd 65535 s'.clock.strobesHeard 1 }
  match s.clock.state with
  | .internal => finish b s s'
  | .strobe =>
    if s'.clock.timer * 2 < s'.clock.length then
      finish b s { s' with clock.early := satAdd 65535 s'.clock.early 1 }
    else finish b s (windowStart .strobe s')
  | .fallback =>
    if s'.clock.timer * 2 < s'.clock.length then
      finish b s { s' with clock.early := satAdd 65535 s'.clock.early 1 }
    else finish b s (windowStart .strobe s')

/-- The cool-down of an entry has ended: its end window is present and not later than now (R10). -/
def coolEnded (now : Win) (e : Nat × Option Win) : Bool :=
  match e.2 with
  | some w => !winLater w now
  | none => false

/-- COOL_DOWN_END (R10): the tags whose end window has come move to the tail of the free list, in list order. -/
def execCoolDownEnd (b : Bus) (s : State) : Out :=
  if s.due.coolDown then
    finish b s
      { s with due.coolDown := false,
               tagFree := s.tagFree ++ (s.coolDown.filter (coolEnded s.now)).map Prod.fst,
               coolDown := s.coolDown.filter fun e => !coolEnded s.now e }
  else .next s

end Sys2Proof.Machine
end

