-- ==== Sys2Proof/Machine/Lines.lean ====
section
/-! DEFINITION. The entry lines (chapter 3): assembly, examination and handling of frames, errors, answers, the LINE
slips, and the commands of an entry line. -/

namespace Sys2Proof.Machine

/-! ### Line state and errors (R46, R50) -/

/-- Writes the STATE-CHANGE record of a line and raises LINE (R46). DESIGN CHOICE (log 43): IN-SERVICE and ON-AIR, which a
line has not, are 0 in its record. -/
def lineChange (l : Fin 8) (old : LineState) (cause : ChangeCause) (s : State) : State :=
  stateChange
    { source := .line l, old := old.toNat, new := (s.line l).state.toNat, cause := cause, inService := false,
      onAir := false, window := s.now } .line s

/-- Counts one error on a line; an OPEN line whose errors this sweep reach the threshold becomes QUIET (R50). -/
def lineError (l : Fin 8) (s : State) : State :=
  let s := s.modLine l fun x =>
    { x with errorsSweep := satAdd 255 x.errorsSweep 1, errorTotal := satAdd 65535 x.errorTotal 1 }
  if (s.line l).state = .opened ∧ s.settings.lineThreshold ≤ (s.line l).errorsSweep then
    lineChange l .opened .errors (s.modLine l fun x => { x with state := .quiet })
  else s

/-- The receive state returns to HUNTING, and the bytes in assembly are discarded (R47, R48). -/
def Line.hunt (x : Line) : Line :=
  { x with rx := .hunting, buffer := [] }

/-- Queues an answer of a line (R51). -/
def queueAnswer (l : Fin 8) (a : LineAnswer) (s : State) : State :=
  s.modLine l fun x => { x with answers := x.answers ++ [a] }

/-- An error that is answered REFUSED with BAD-FRAME (R47, R48). -/
def refuseFrame (l : Fin 8) (tag : Byte) (s : State) : State :=
  queueAnswer l (.refused tag .badFrame) (lineError l s)

/-- An event that ends a frame and calls for an answer: the test for 8 waiting answers is made first, and with 8
waiting the frame is discarded and counts one error in all (R51). -/
def answering (l : Fin 8) (f : State → State) (s : State) : State :=
  if 8 ≤ (s.line l).answers.length then lineError l (s.modLine l Line.hunt) else f (s.modLine l Line.hunt)

/-! ### Frames (R48, R52 to R55, section 11.9.6) -/

/-- The body of a complete frame. -/
def frameBody (buf : List Byte) : List Byte :=
  (buf.drop 3).take (buf.length - 4)

/-- The body length suits the kind (R48): a PROBE has none, a SUBMIT has 7 bytes and its text. -/
def lengthSuits (kind : Byte) (body : List Byte) : Bool :=
  if kind = 1 then decide (7 ≤ body.length ∧ body.length = 7 + (body.getD 6 0).toNat) else decide (body = [])

/-- A complete frame has none of the faults of R48: bad check, unknown kind, bad length. -/
def frameGood (buf : List Byte) : Bool :=
  let kind := buf.getD 0 0
  decide (crc8 (buf.take (buf.length - 1)) = buf.getD (buf.length - 1) 0) && decide (kind = 1 ∨ kind = 2) &&
    lengthSuits kind (frameBody buf)

/-- The answer to a refusal of the acceptance checks (R55, R59): BUSY for no room, REFUSED else. -/
def Reject.lineAnswer (tag : Byte) : Reject → LineAnswer
  | .unknown => .refused tag .unknown
  | .suspended => .refused tag .suspended
  | .kindNotAllowed => .refused tag .kindNotAllowed
  | .queueFull => .refused tag .queueFull
  | .noRoom => .busy tag
  | .noCredit _ => .refused tag .noCredit

/-- The submission of a SUBMIT body after degrading; its client reference is the tag, its origin the line (R54). -/
def lineSubmission (l : Fin 8) (tag : Byte) (body : List Byte) (d : Prepared') : Submission :=
  { origin := .line l, clientRef := tag.setWidth 32, number := beNat (body.take 4), expiry := 0, body := d }

/-- A new acceptance of a line: the answer TAKEN, the taken count and the last-taken memory (R53, R62). -/
def takenFromLine (l : Fin 8) (tag check : Byte) (d : Prepared') (r : Submission) (m : Message) (s : State) : State :=
  let flags := lineFlags d.truncated d.altered (classLimited r m)
  (queueAnswer l (.taken tag m.serial flags) (acceptMessage m s)).modLine l fun x =>
    { x with taken := satAdd 65535 x.taken 1,
             lastTaken := some { tag := tag, check := check, serial := m.serial, flags := flags } }

/-- A new SUBMIT on an OPEN line (R54, R55, R59). -/
def newSubmit (l : Fin 8) (tag check : Byte) (body : List Byte) (s : State) : State :=
  match degrade (body.getD 4 0) (body.getD 5 0) (body.drop 7) with
  | none => queueAnswer l (.refused tag .badKind) s
  | some d =>
    let r := lineSubmission l tag body d
    match checkSubmission r s with
    | .error .noRoom =>
      (queueAnswer l (.busy tag) s).modLine l fun x => { x with busy := satAdd 65535 x.busy 1 }
    | .error e => queueAnswer l (e.lineAnswer tag) s
    | .ok m => takenFromLine l tag check d r m s

/-- A SUBMIT on an OPEN line (R53): a repeat of the latest acceptance is answered again. -/
def openSubmit (l : Fin 8) (tag check : Byte) (body : List Byte) (s : State) : State :=
  match (s.line l).lastTaken with
  | some t =>
    if t.tag = tag ∧ t.check = check then queueAnswer l (.taken tag t.serial (t.flags ||| repeatedFlag)) s
    else newSubmit l tag check body s
  | none => newSubmit l tag check body s

/-- Handles a committed frame by the line state (R52). -/
def commitFrame (l : Fin 8) (buf : List Byte) (s : State) : State :=
  let tag := buf.getD 1 0
  if (s.line l).state = .quiet then queueAnswer l (.refused tag .lineQuiet) s
  else if buf.getD 0 0 = 2 then queueAnswer l (.alive tag s.part) s
  else openSubmit l tag (buf.getD (buf.length - 1) 0) (frameBody buf) s

/-- Examines a complete frame (R48, R51). -/
def completeFrame (l : Fin 8) (buf : List Byte) (s : State) : State :=
  answering l (fun t => if frameGood buf then commitFrame l buf t else refuseFrame l (buf.getD 1 0) t) s

/-- A byte arrives on an entry line (R47). -/
def lineByte (l : Fin 8) (byte : Byte) (s : State) : State :=
  if (s.line l).state = .closed then s
  else
    match (s.line l).rx with
    | .hunting =>
      if byte = leadMark then
        s.modLine l fun x => { x with rx := .assembling s.ms (s.settings.frameTimeout * 1000), buffer := [] }
      else s
    | .assembling _ _ =>
      let buf := (s.line l).buffer ++ [byte]
      if buf.length = 3 ∧ 251 < byte.toNat then answering l (refuseFrame l (buf.getD 1 0)) s
      else if 4 ≤ buf.length ∧ buf.length = 4 + (buf.getD 2 0).toNat then completeFrame l buf s
      else s.modLine l fun x => { x with buffer := buf }

/-- The line is assembling. -/
def Line.assembling (x : Line) : Bool :=
  match x.rx with
  | .hunting => false
  | .assembling _ _ => true

/-- The line assembles a frame of this kind that needs one more byte. -/
def Line.lastByteOf (kind : Byte) (x : Line) : Bool :=
  x.assembling && decide (x.state ≠ .closed ∧ 3 ≤ x.buffer.length ∧ x.buffer.length = 3 + (x.buffer.getD 2 0).toNat ∧
    x.buffer.head? = some kind)

/-- LINE_SUBMIT_FRAME (R52): the last byte of a SUBMIT frame arrives (log 1, log 21). -/
def execLineSubmitFrame (l : Fin 8) (byte : Byte) (b : Bus) (s : State) : Out :=
  if (s.line l).lastByteOf 1 then finish b s (lineByte l byte s) else .next s

/-- LINE_PROBE_FRAME (R52): the last byte of a PROBE frame arrives (log 1, log 21). -/
def execLineProbeFrame (l : Fin 8) (byte : Byte) (b : Bus) (s : State) : Out :=
  if (s.line l).lastByteOf 2 then finish b s (lineByte l byte s) else .next s

/-- BODY_LENGTH_OVERRUN (R47): the body length byte arrives and exceeds 251. -/
def execBodyLengthOverrun (l : Fin 8) (byte : Byte) (b : Bus) (s : State) : Out :=
  if (s.line l).assembling ∧ (s.line l).state ≠ .closed ∧ (s.line l).buffer.length = 2 ∧ 251 < byte.toNat then
    finish b s (lineByte l byte s)
  else .next s

/-- ENTRY_LINE_BYTE_ARRIVAL (R47): a byte arrives on an entry line. -/
def execEntryLineByteArrival (l : Fin 8) (byte : Byte) (b : Bus) (s : State) : Out :=
  finish b s (lineByte l byte s)

/-- A framing failure while ASSEMBLING (R48): answered REFUSED if the tag had arrived, else not answered. -/
def framingFailure (l : Fin 8) (s : State) : State :=
  if 2 ≤ (s.line l).buffer.length then answering l (refuseFrame l ((s.line l).buffer.getD 1 0)) s
  else lineError l (s.modLine l Line.hunt)

/-- LINE_FRAMING_FAILURE (R48): not counted while the line is HUNTING. -/
def execLineFramingFailure (l : Fin 8) (b : Bus) (s : State) : Out :=
  if (s.line l).assembling then finish b s (framingFailure l s) else .next s

/-- FRAME_TIMEOUT (R49): the frame timeout has run from the arrival of the lead mark; one error, no answer. -/
def execFrameTimeout (l : Fin 8) (b : Bus) (s : State) : Out :=
  match (s.line l).rx with
  | .hunting => .next s
  | .assembling lead timeout => finish b s (lineError l ((s.passTo (lead + timeout)).modLine l Line.hunt))

/-- ANSWER_SENT (R51): the last byte of the answer at the head of the queue has been sent. -/
def execAnswerSent (l : Fin 8) (b : Bus) (s : State) : Out :=
  if (s.line l).answers = [] then .next s
  else finish b s (s.modLine l fun x => { x with answers := x.answers.drop 1 })

/-- A line at a sweep start (R46, R50). -/
def sweepLine (s : State) (l : Fin 8) : State :=
  let t := s.modLine l fun x =>
    { x with errorsSweep := 0, state := if x.state = .quiet then .opened else x.state }
  if (s.line l).state = .quiet then lineChange l .quiet .sweepStart t else t

/-- LINE_SWEEP_START (R50). DESIGN CHOICE (log 38): the lines go in ascending order, which R46 and R50 leave open, and so do
their records. -/
def execLineSweepStart (b : Bus) (s : State) : Out :=
  if s.due.lineSweep then finish b s (all8.foldl sweepLine { s with due.lineSweep := false }) else .next s

/-! ### Answer frames (R51, section 11.9.6) -/

/-- The bytes of an answer frame from its kind to the end of its fields. -/
def LineAnswer.bytes : LineAnswer → List Byte
  | .taken tag serial flags => [0x81, tag] ++ beBytes 4 serial ++ [flags]
  | .refused tag reason => [0x82, tag, BitVec.ofNat 8 reason.toNat]
  | .busy tag => [0x83, tag]
  | .alive tag part => [0x84, tag, BitVec.ofNat 8 part.toNat]

/-- The whole answer frame: lead mark, the bytes, and the CRC-8 over kind to end of fields. -/
def LineAnswer.frame (a : LineAnswer) : List Byte :=
  leadMark :: (a.bytes ++ [crc8 a.bytes])

/-! ### The LINE slips (R46, R56) -/

/-- BAD-LINE, then NOT-CONTROL where the operation needs control (R56). -/
def withLine (needsControl : Bool) (p : Port) (line : Word) (op : Fin 8 → Act) : Act := fun s =>
  match asFin8 line with
  | none => refuse .badLine s
  | some l => if needsControl ∧ s.holds p = false then refuse .notControl s else op l s

/-- The answer of OPEN and CLOSE: DONE with the line state as it stands afterwards (R56). -/
def lineStateAnswer (l : Fin 8) (s : State) : State × Answer :=
  (s, { code := .done, fields := leBytes 1 (s.line l).state.toNat })

/-- LINE OPEN on a line that exists (R46). -/
def openLine (l : Fin 8) (s : State) : State :=
  if (s.line l).state = .opened then s
  else lineChange l (s.line l).state .slip (s.modLine l fun x => { x with state := .opened, errorsSweep := 0 })

/-- LINE CLOSE on a line that exists: the frame in assembly is discarded (R46). -/
def closeLine (l : Fin 8) (s : State) : State :=
  if (s.line l).state = .closed then s
  else lineChange l (s.line l).state .slip (s.modLine l fun x => { x.hunt with state := .closed })

/-- The receive state in a LINE READ: 0 HUNTING, 1 ASSEMBLING with the arrival time of the lead mark (log 16). -/
def LineRx.bytes : LineRx → List Byte
  | .hunting => [0, 0]
  | .assembling lead _ => [1, 1] ++ leBytes 4 lead

/-- The last-taken memory in a LINE READ. -/
def LastTaken.bytes (t : LastTaken) : List Byte :=
  [t.tag, t.check] ++ leBytes 4 t.serial ++ [t.flags]

/-- The fields of a LINE READ: every item of R45 in its order; the answers waiting are a list of frames (log 16). -/
def lineReadFields (x : Line) : List Byte :=
  leBytes 1 x.state.toNat ++ x.rx.bytes ++ listBytes (fun b => [b]) x.buffer ++ optBytes LastTaken.bytes x.lastTaken ++
  leBytes 1 x.errorsSweep ++ listBytes LineAnswer.frame x.answers ++ leBytes 2 x.taken ++ leBytes 2 x.busy ++
  leBytes 2 x.errorTotal

/-- LINE OPEN (R46, R56). -/
def execLineOpen (p : Port) (ix : Fin 64) (line : Word) (b : Bus) (s : State) : Out :=
  slipEvent p ix b (withLine true p line fun l s => lineStateAnswer l (openLine l s)) s

/-- LINE CLOSE (R46, R56). -/
def execLineClose (p : Port) (ix : Fin 64) (line : Word) (b : Bus) (s : State) : Out :=
  slipEvent p ix b (withLine true p line fun l s => lineStateAnswer l (closeLine l s)) s

/-- LINE READ (R56), from either port. -/
def execLineRead (p : Port) (ix : Fin 64) (line : Word) (b : Bus) (s : State) : Out :=
  slipEvent p ix b
    (withLine false p line fun l s => (s, { code := .done, fields := lineReadFields (s.line l) })) s

end Sys2Proof.Machine
end

