-- ==== Sys2Proof/Machine/Journal.lean ====
section
/-! DEFINITION. The journal (section 10.5, section 11.9.5): records, the page choice, the record write, the seal, the
stall, and the commands PAGE_CHOICE, JOURNAL_RECORD_WRITE and SEAL_DELAY_EXPIRY. -/

namespace Sys2Proof.Machine

/-! ### Records (section 11.9.5) -/

/-- Byte 1 of a record: the kind, the LOST flag, and the kind's own high bits. -/
def recordByte1 (kind : Nat) (lost : Bool) (high : Nat) : Byte :=
  BitVec.ofNat 8 (kind + (if lost then 8 else 0) + high)

/-- The bytes from offset 1 of an OUTCOME or DELIVERY record, from the message record as it stood final (R41, R179). -/
def messageRecord (kind : Nat) (lost : Bool) (charge : Nat) (m : Message) : List Byte :=
  [recordByte1 kind lost (16 * (m.disposition.map Disposition.toNat).getD 0 + (if m.transmitted then 128 else 0))] ++
  leBytes 4 m.serial ++ leBytes 2 m.slot ++ leBytes 4 m.clientRef.toNat ++ leBytes 1 m.origin.toNat ++
  leBytes 1 (m.cls.toNat + 4 * m.origCls.toNat + 16 * (m.round - 1)) ++
  leBytes 1 (m.attempts % 16 + 16 * m.kind.toNat) ++ leBytes 1 m.seq ++ leBytes 1 m.zoneSends ++
  leBytes 1 (m.allowanceUsed.getD 0) ++ leBytes 1 m.cells ++ leBytes 1 m.deferrals ++ leBytes 4 charge ++
  winBytes m.accepted ++ winBytes (m.finalWindow.getD 0)

/-- A PERIOD-TOTAL record: its first sixteen bytes are one number of packed fields (section 11.9.5). -/
def totalRecord (number : Word) (lost : Bool) (r : PeriodTotal) : List Byte :=
  leBytes 16 (number.toNat % 256 + 2 ^ 8 * 2 + 2 ^ 11 * (if lost then 1 else 0) + 2 ^ 12 * r.postpaid.toNat +
    2 ^ 13 * (r.slot % 2 ^ 14) + 2 ^ 27 * (r.number % 2 ^ 27) + 2 ^ 54 * r.period.toNat +
    2 ^ 62 * (r.committed % 2 ^ 30) + 2 ^ 92 * (r.allowance % 2 ^ 20) + 2 ^ 112 * (r.periodCount % 2 ^ 16)) ++
  leBytes 4 (signed32 r.balance) ++ leBytes 4 r.usage ++ leBytes 4 r.periodCharge ++ leBytes 4 r.periodAllowance

/-- The source code and number of a STATE-CHANGE record. -/
def ChangeSource.codes : ChangeSource → Nat × Nat
  | .line l => (0, l.val)
  | .zone z => (1, z.val)
  | .clock => (2, 0)

/-- The 32 bytes of the record of an item, with its journal number and its LOST flag (R179, section 11.9.5). Bytes that
no field names are 0; DESIGN CHOICE (log 52): so are the bits that none names in a byte of a field. -/
def recordBytes (it : Item) (number : Word) (lost : Bool) (s : State) : List Byte :=
  let low := leBytes 1 number.toNat
  padTo 32 <| match it with
    | .outcome serial =>
      match s.msg? serial with
      | none => low ++ [recordByte1 0 lost 0]
      | some m => low ++ messageRecord 0 lost (m.charge.getD 0) m
    | .delivery serial =>
      match s.msg? serial with
      | none => low ++ [recordByte1 1 lost 0]
      | some m => low ++ messageRecord 1 lost 0 m
    | .periodTotal r => totalRecord number lost r
    | .periodEnd period count w =>
      low ++ [recordByte1 3 lost 0, period, 0] ++ leBytes 4 count ++ winBytes w
    | .stateChange r =>
      low ++ [recordByte1 4 lost (16 * r.source.codes.1)] ++ leBytes 1 r.source.codes.2 ++ leBytes 1 r.old ++
        leBytes 1 r.new ++ leBytes 1 r.cause.toNat ++
        leBytes 1 ((if r.inService then 1 else 0) + (if r.onAir then 2 else 0)) ++ [0] ++ winBytes r.window
    | .controlMoved old new cause w =>
      low ++ [recordByte1 5 lost 0] ++ leBytes 1 (holderCode old) ++ leBytes 1 (holderCode new) ++
        leBytes 1 cause.toNat ++ [0, 0, 0] ++ winBytes w

/-! ### Choosing a page (R178, R181) -/

/-- The address of the mark of a page list entry (R184, section 11.9.3). -/
def markAddress (base : Nat) (i : Fin 16) : Nat :=
  base + 0x100 + 16 * i.val + 8

/-- The entry after one, wrapping after 15 (R178). -/
def entryAfter (i : Fin 16) : Fin 16 :=
  ⟨(i.val + 1) % 16, Nat.mod_lt _ (by decide)⟩

/-- `n` entries in index order from one, wrapping after 15 (R178). -/
def entriesFrom : Nat → Fin 16 → List (Fin 16)
  | 0, _ => []
  | n + 1, i => i :: entriesFrom n (entryAfter i)

/-- A page address that may be used: non-zero and aligned on 2 KiB (R178). -/
def pageValid (e : PageEntry) : Bool :=
  decide (e.address ≠ 0 ∧ e.address.toNat % 2048 = 0)

/-- The port enters the stall: its mark is set and STALL is raised (R181). -/
def enterStall (p : Port) (s : State) : State :=
  raise .stall p (s.modPort p fun u => { u with stalled := true })

/-- An entry becomes the current entry: its mark FILLING is written, nothing is written in it yet, the window is noted
and the stalled mark is cleared (R178, R181). -/
def takePage (p : Port) (base : Nat) (i : Fin 16) (address : Nat) (s : State) : State :=
  s.modPort p fun u =>
    { u with current := some { entry := i, address := address, written := 0, first := 0, since := s.now, sealOwed := false },
             stalled := false, recordOwed := false, hostMem := memWrite (markAddress base i) [2] u.hostMem }

/-- The page choice over the entries in search order (R178): the first whose mark is not UNUSED decides. -/
def choosePage (p : Port) (base : Nat) (pages : PageList) (b : Bus) : List (Fin 16) → State → State
  | [], s => enterStall p s
  | i :: rest, s =>
    match pages.getD i.val none with
    | none => enterStall p (capture p .areaRead i.val s)
    | some e =>
      if pageMark e.mark = 0 then choosePage p base pages b rest s
      else if pageMark e.mark = 1 then
        if pageValid e = false then enterStall p (capture p .badPage i.val s)
        else if b.filling then enterStall p (capture p .areaWrite i.val s)
        else takePage p base i e.address.toNat s
      else enterStall p s

/-- The re-examination of a stalled journal over the entries in search order (R181): the first FREE entry with a valid
address is taken; a FREE entry with another address captures BAD-PAGE and is passed over. -/
def reexamine (p : Port) (base : Nat) (pages : PageList) (b : Bus) : List (Fin 16) → State → State
  | [], s => s
  | i :: rest, s =>
    match pages.getD i.val none with
    | none => capture p .areaRead i.val s
    | some e =>
      if pageMark e.mark = 1 then
        if pageValid e = false then reexamine p base pages b rest (capture p .badPage i.val s)
        else if b.filling then capture p .areaWrite i.val s
        else takePage p base i e.address.toNat s
      else reexamine p base pages b rest s

/-- PAGE_CHOICE (R178): an item waits, there is no current entry and the port is not stalled. -/
def execPageChoice (p : Port) (pages : PageList) (b : Bus) (s : State) : Out :=
  let u := s.port p
  if u.queue ≠ [] ∧ u.current = none ∧ u.stalled = false then
    match u.area with
    | none => finish b s (enterStall p s)
    | some base => finish b s (choosePage p base pages b (entriesFrom 16 u.search) s)
  else .next s

/-! ### The seal (R180) -/

/-- The 32 bytes of a page header (section 11.9.3). -/
def pageHeader (p : Port) (seqn : Word) (pg : Page) : List Byte :=
  padTo 32 (leBytes 4 seqn.toNat ++ leBytes 4 pg.first.toNat ++ leBytes 1 pg.written ++ leBytes 1 (Port.toNat p))

/-- Seals the current page (R180): the header, the mark SEALED, PAGE, the next page sequence, and the search entry; where
either write meets a bus error the seal has not been made and is owed. -/
def sealPage (p : Port) (b : Bus) (s : State) : State :=
  match (s.port p).area, (s.port p).current with
  | some base, some pg =>
    let s := if b.sealHeader then s else
      s.modPort p fun u => { u with hostMem := memWrite pg.address (pageHeader p u.nextPage pg) u.hostMem }
    if b.sealHeader ∨ b.sealMark then
      capture p .areaWrite pg.entry.val (s.modPort p fun u => { u with current := some { pg with sealOwed := true } })
    else
      raise .page p (s.modPort p fun u =>
        { u with hostMem := memWrite (markAddress base pg.entry) [3] u.hostMem, nextPage := u.nextPage + 1,
                 current := none, search := entryAfter pg.entry })
  | _, _ => s

/-- SEAL_DELAY_EXPIRY (R180): at a window start the current page holds a record and has been FILLING for the seal delay.
A seal that has failed is tried again at the next scan instead. -/
def execSealDelayExpiry (p : Port) (b : Bus) (s : State) : Out :=
  if (s.port p).sealDue then
    let t := s.modPort p fun u => { u with sealDue := false }
    match (s.port p).current with
    | none => .next t
    | some pg =>
      if 1 ≤ pg.written ∧ s.settings.sealDelay ≤ (s.now - pg.since).toNat ∧ pg.sealOwed = false then
        finish b s (sealPage p b t)
      else .next t
  else .next s

/-! ### The record write (R179) -/

/-- The address of the next record place of a page (section 11.9.3). -/
def Page.place (pg : Page) : Nat :=
  pg.address + 32 + 32 * pg.written

/-- The current page can take the head item: it has fewer than 63 records, no seal of it is owed, and an item waits. -/
def PortUnit.canWrite (u : PortUnit) : Bool :=
  match u.current with
  | some pg => decide (pg.written < 63 ∧ pg.sealOwed = false ∧ u.queue ≠ [])
  | none => false

/-- The port unit after it has written the head item's record (R176, R179). -/
def PortUnit.recordWritten (bytes : List Byte) (pg : Page) (u : PortUnit) : PortUnit :=
  { u with hostMem := memWrite pg.place bytes u.hostMem, queue := u.queue.drop 1, gap := false,
           nextNumber := u.nextNumber + 1, recordOwed := false,
           current := some { pg with first := if pg.written = 0 then u.nextNumber else pg.first,
                                     written := pg.written + 1 } }

/-- Writes the record of the head item into the current page, and seals it with its 63rd record (R179, R180); on a bus
error the item stays, AREA-WRITE-ERROR is captured and the write is owed. -/
def writeRecord (p : Port) (b : Bus) (s : State) : State :=
  match (s.port p).current, (s.port p).queue with
  | some pg, it :: _ =>
    if b.record then capture p .areaWrite pg.entry.val (s.modPort p fun u => { u with recordOwed := true })
    else
      let bytes := recordBytes it (s.port p).nextNumber (s.port p).gap s
      let s := reportWritten it (s.modPort p (PortUnit.recordWritten bytes pg))
      if pg.written + 1 = 63 then sealPage p b s else s
  | _, _ => s

/-- JOURNAL_RECORD_WRITE (R179). A write that has failed is tried again at the next scan instead. -/
def execJournalRecordWrite (p : Port) (b : Bus) (s : State) : Out :=
  if (s.port p).canWrite ∧ (s.port p).recordOwed = false then finish b s (writeRecord p b s) else .next s

/-! ### What a scan's end does for the journal (R185) -/

/-- Retries a failed seal (R180). -/
def retrySeal (p : Port) (b : Bus) (s : State) : State :=
  match (s.port p).current with
  | none => s
  | some pg => if pg.sealOwed then sealPage p b s else s

/-- Re-examines a stalled journal (R181). -/
def retryStall (p : Port) (pages : PageList) (b : Bus) (s : State) : State :=
  match (s.port p).area with
  | none => s
  | some base =>
    if (s.port p).stalled then reexamine p base pages b (entriesFrom 16 (s.port p).search) s else s

/-- Retries a failed record write (R179). -/
def retryRecord (p : Port) (b : Bus) (s : State) : State :=
  if (s.port p).recordOwed then
    let t := s.modPort p fun u => { u with recordOwed := false }
    if (s.port p).canWrite then writeRecord p b t else t
  else s

end Sys2Proof.Machine
end

