-- ==== Sys2Proof/Machine/Ports.lean ====
section
/-! DEFINITION. The port units (chapter 11): register writes, the control claim, the scan, the header refresh, the port
reset, power-on reset and the start-up walk. -/

namespace Sys2Proof.Machine

/-! ### The scan (R185) -/

/-- Begins a scan at the scan position. -/
def PortUnit.beginScan (u : PortUnit) : PortUnit :=
  { u with scan := some { start := u.scanPos, examined := 0, lastTaken := none, answered := false } }

/-- A request for a scan (R185): nothing without an area; the rescan mark while a scan runs; else a scan begins. -/
def PortUnit.requestScan (u : PortUnit) : PortUnit :=
  match u.area with
  | none => u
  | some _ => if u.scan.isSome then { u with rescan := true } else u.beginScan

/-- SCAN_REQUEST (R182, R185): a write of 1 to SCAN. -/
def execScanRequest (p : Port) (b : Bus) (s : State) : Out :=
  finish b s (s.modPort p PortUnit.requestScan)

/-- SCAN (R185): the scan of a window start. -/
def execScan (p : Port) (b : Bus) (s : State) : Out :=
  if (s.port p).scanDue then
    finish b s (s.modPort p fun u => { u with scanDue := false }.requestScan)
  else .next s

/-- The scan position after a scan: the index after the last slip taken, unchanged if none was taken (R185). -/
def ScanRun.position (r : ScanRun) (old : Fin 64) : Fin 64 :=
  match r.lastTaken with
  | none => old
  | some ix => ⟨(ix.val + 1) % 64, Nat.mod_lt _ (by decide)⟩

/-- The port unit at the end of its scan: the position, and no scan running. -/
def PortUnit.endScan (r : ScanRun) (u : PortUnit) : PortUnit :=
  { u with scanPos := r.position u.scanPos, scan := none }

/-- A new scan begins where the rescan mark is set, and the mark is cleared (R185). -/
def PortUnit.endRescan (u : PortUnit) : PortUnit :=
  if u.rescan then { u with rescan := false }.beginScan else u

/-- The end of the scan once every index has been passed (R185). -/
def endScan (p : Port) (r : ScanRun) (pages : PageList) (b : Bus) (s : State) : State :=
  let s := s.modPort p (PortUnit.endScan r)
  let s := if r.answered then raise .slips p s else s
  (retryRecord p b (retryStall p pages b (retrySeal p b s))).modPort p PortUnit.endRescan

/-- SCAN_END (R185): the indices not yet passed are passed, with their kept answers (R186), and the scan ends. -/
def execScanEnd (p : Port) (pages : PageList) (b : Bus) (s : State) : Out :=
  match (s.port p).scan with
  | none => .next s
  | some r =>
    let t := passIndices p r b.kept (64 - r.examined) r.examined s
    finish b s (endScan p ((t.port p).scan.getD r) pages b t)

/-! ### Notices, enables and the fault word (R183, R188) -/

/-- A NOTICE write (R183): each 1 clears that bit; a 1 to FAULT also clears the fault word, its count and its lock
(R188). -/
def PortUnit.clearNotice (v : Word) (u : PortUnit) : PortUnit :=
  let u := { u with notice := u.notice &&& ~~~(v.setWidth 10) }
  if v.getLsbD 5 then { u with faultWord := none, faultCount := 0, locked := false } else u

/-- NOTICE_CLEAR (R183, R188). -/
def execNoticeClear (p : Port) (v : Word) (b : Bus) (s : State) : Out :=
  finish b s (s.modPort p (PortUnit.clearNotice v))

/-- A NOTICE ENABLE write (R182, R183). DESIGN CHOICE (log 51): bits 10 to 31, which section 11.9.1 does not name, are
dropped. -/
def PortUnit.writeEnable (v : Word) (u : PortUnit) : PortUnit :=
  { u with enable := v.setWidth 10 }

/-- NOTICE_ENABLE_WRITE (R183). -/
def execNoticeEnableWrite (p : Port) (v : Word) (b : Bus) (s : State) : Out :=
  finish b s (s.modPort p (PortUnit.writeEnable v))

/-! ### The control claim (R187) -/

/-- CONTROL_TRY (R187). -/
def execControlTry (p : Port) (b : Bus) (s : State) : Out :=
  finish b s (controlTry p s)

/-- CONTROL_RELEASE (R187). -/
def execControlRelease (p : Port) (b : Bus) (s : State) : Out :=
  finish b s (controlRelease p .released s)

/-- CONTROL_FORCE (R187). -/
def execControlForce (p : Port) (b : Bus) (s : State) : Out :=
  finish b s (controlForce p s)

/-- CONTROL_PEER (R187). -/
def execControlPeer (p : Port) (v : BitVec 16) (b : Bus) (s : State) : Out :=
  finish b s (controlPeer p v s)

/-! ### The port reset (R190) -/

/-- Step 2: a FILLING page that holds records is sealed into the old area (R190). -/
def resetSeal (p : Port) (b : Bus) (s : State) : State :=
  match (s.port p).current with
  | none => s
  | some pg => if 1 ≤ pg.written then sealPage p b s else s

/-- Steps 3 to 6: the page list is forgotten, the scan position is 0, NOTICE, NOTICE ENABLE and the fault word are
cleared (R190). -/
def PortUnit.afterReset (u : PortUnit) : PortUnit :=
  { u with current := none, search := 0, stalled := false, recordOwed := false, scanPos := 0, notice := 0, enable := 0,
           faultWord := none, faultCount := 0, locked := false }

/-- Step 7: control is released with cause PORT-RESET if the port holds it; its try flag and its peer value go
(R190). -/
def resetControl (p : Port) (s : State) : State :=
  let s := if s.control.holder = some p then controlRelease p .portReset s else s
  { s with control := (s.control.setTry p false).setPeer p 0 }

/-- Step 8: AREA is read into the area in use; 0 gives none, and one not aligned on 64 KiB gives none and captures
BAD-AREA (R190). -/
def resetArea (p : Port) (s : State) : State :=
  let v := (s.port p).areaReg.toNat
  if v = 0 then s.modPort p fun u => { u with area := none }
  else if v % 65536 = 0 then s.modPort p fun u => { u with area := some v }
  else capture p .badArea 0 (s.modPort p fun u => { u with area := none })

/-- The port reset up to step 8, in the order of R190. -/
def resetPort (p : Port) (b : Bus) (s : State) : State :=
  let s := s.modPort p fun u => { u with scan := none, rescan := false, kept := [] }
  resetArea p (resetControl p ((resetSeal p b s).modPort p PortUnit.afterReset))

/-- The end of an event in which one port writes its whole header (R184). -/
def finishPort (p : Port) (b : Bus) (s s' : State) : Out :=
  match p with
  | .A => finishFull true false b s s'
  | .B => finishFull false true b s s'

/-- PORT_RESET (R190): a write of 0xA5 to SCAN; step 9 writes the identification and the whole header. -/
def execPortReset (p : Port) (b : Bus) (s : State) : Out :=
  finishPort p b s (resetPort p b s)

/-- HEADER_REFRESH (R184): the whole header is written again at a window start. -/
def execHeaderRefresh (p : Port) (b : Bus) (s : State) : Out :=
  if (s.port p).headerDue then finishPort p b s (s.modPort p fun u => { u with headerDue := false }) else .next s

/-! ### Other register writes (R182, section 11.9.1) -/

/-- A CONTROL write by its operation bits 16 and 17 (section 11.9.1). DESIGN CHOICE (log 51): bits 18 to 31 are ignored. -/
def writeControl (p : Port) (v : Word) (s : State) : State :=
  match (v.toNat / 65536) % 4 with
  | 0 => controlTry p s
  | 1 => controlRelease p .released s
  | 2 => controlForce p s
  | _ => controlPeer p (v.setWidth 16) s

/-- A write to a register of a port (R182): AREA takes the value; SCAN acts on 1 and 0xA5 and ignores other values; the
other registers act as their own commands (log 22). -/
def execRegisterWrite (p : Port) (r : Reg) (v : Word) (b : Bus) (s : State) : Out :=
  match r with
  | .area => finish b s (s.modPort p fun u => { u with areaReg := v })
  | .scan =>
    if v = 1 then finish b s (s.modPort p PortUnit.requestScan)
    else if v = 0xA5 then finishPort p b s (resetPort p b s)
    else .next s
  | .notice => finish b s (s.modPort p (PortUnit.clearNotice v))
  | .noticeEnable => finish b s (s.modPort p (PortUnit.writeEnable v))
  | .control => finish b s (writeControl p v s)

/-! ### Power-on reset and the start-up walk (R191) -/

/-- POWER_ON_RESET (R69, R191): all state at its power-on value, the part STARTING, window 0 started. The commands that
wait, the host memories and the model's millisecond count are not the part's (log 23). -/
def execPowerOnReset (s : State) : Out :=
  let r := State.reset
  .next { r with pending := s.pending, ms := s.ms, portA := { r.portA with hostMem := s.portA.hostMem },
                 portB := { r.portB with hostMem := s.portB.hostMem } }

/-- The places of the account memory that the start-up walk visits: 16,384 slots, 4,096 record places, 8,192 text blocks,
the two calendars and 16 plans (log 7). -/
def startUpPlaces : Nat := 28690

/-- START_UP_WALK_VISIT (R191): the walk visits its next places (at least one), and with the last of them the part
becomes READY and READY is raised at both ports. -/
def execStartUpWalkVisit (places : Nat) (b : Bus) (s : State) : Out :=
  if s.part = .starting then
    let n := s.startUp + max 1 places
    if startUpPlaces ≤ n then finish b s (raiseBoth .ready { s with part := .ready, startUp := startUpPlaces })
    else finish b s { s with startUp := n }
  else .next s

end Sys2Proof.Machine
end

