-- ==== Sys2Proof/Machine/SettingsUnit.lean ====
section
/-! DEFINITION. The SETTINGS slip (R189). -/

namespace Sys2Proof.Machine

/-- The settings in the order of R189 (log 15). -/
def Settings.bytes (st : Settings) : List Byte :=
  leBytes 2 st.windowLength ++ leBytes 1 st.clockSource.toNat ++ leBytes 1 st.ackDelay ++ leBytes 1 st.mergeSpan ++
  leBytes 1 st.grantLimit ++ st.capacity.toList.flatMap (leBytes 1) ++ st.neighbours.toList ++
  st.siteZone.toList.flatMap (fun z => leBytes 1 z.val) ++ leBytes 1 st.lineThreshold ++ leBytes 1 st.zoneThreshold ++
  leBytes 1 st.frameTimeout ++ leBytes 1 st.sealDelay ++ leBytes 1 st.tagIdle

/-- The act of a SETTINGS SET (R189): NOT-CONTROL, MALFORMED for a clock source that is neither, then the whole set. -/
def settingsSetAct (p : Port) (r : SettingsReq) : Act := fun s =>
  if s.holds p = false then refuse .notControl s
  else
    match ClockSource.ofCode? r.clockSource with
    | none => refuse .malformed s
    | some src =>
      ({ s with settings := settingsOf src r },
       { code := .done, flags := slipFlags (settingsClamped r) false false false, fields := (settingsOf src r).bytes })

/-- SETTINGS SET (R189). -/
def execSettingsSet (p : Port) (ix : Fin 64) (r : SettingsReq) (b : Bus) (s : State) : Out :=
  slipEvent p ix b (settingsSetAct p r) s

/-- The act of a SETTINGS READ (R189), from either port. -/
def settingsReadAct : Act := fun s =>
  (s, { code := .done, fields := s.settings.bytes })

/-- SETTINGS READ (R189). -/
def execSettingsRead (p : Port) (ix : Fin 64) (b : Bus) (s : State) : Out :=
  slipEvent p ix b settingsReadAct s

end Sys2Proof.Machine
end

