-- ==== Sys2Proof/Machine/Subscribers.lean ====
section
/-! DEFINITION. The SUBSCRIBER slip (section 1.5): ADD, MODIFY, SUSPEND, RESUME, REMOVE and READ. -/

namespace Sys2Proof.Machine

/-! ### READ (R23, R134) -/

/-- The pending control item as an answer reports it: kind, tag and due window (R134). -/
def Pending.bytes (pd : Pending) : List Byte :=
  leBytes 1 pd.kind.toNat ++ leBytes 2 pd.tag ++ winBytes pd.due

/-- The account fields in the order of R164. -/
def Account.bytes (a : Account) : List Byte :=
  leBytes 4 (signed32 a.balance) ++ leBytes 4 a.committed ++ leBytes 4 a.usage ++ leBytes 4 a.allowance ++ [a.period] ++
  leBytes 4 a.periodCharge ++ leBytes 2 a.periodCount ++ leBytes 4 a.periodAllowance ++ leBytes 1 a.postpaid.toNat

/-- The subscriber's part of a READ, in the order of R1 up to the account (log 15). -/
def Subscriber.bytes (x : Subscriber) : List Byte :=
  leBytes 1 x.state.toNat ++ leBytes 4 x.number ++ leBytes 3 x.pager ++ leBytes 1 x.plan.val ++ yesNo x.twoWay ++
  leBytes 1 x.home ++ leBytes 1 x.wake.val ++ [x.area] ++ optBytes (fun z => [z]) x.lastKnown ++
  optBytes (leBytes 2) x.tag ++ leBytes 1 x.tagState.toNat ++ leBytes 1 x.offers ++ optBytes Pending.bytes x.pending ++
  optBytes winBytes x.lastReply ++ leBytes 1 x.nextSeq ++ listBytes (leBytes 4) x.queue ++ yesNo x.override ++
  leBytes 2 x.ownBase ++ leBytes 2 x.ownCell ++ x.account.bytes

/-- The same fields of a VACANT slot: state VACANT, and every other field absent or 0 (R23), 54 bytes in all. -/
def vacantBytes : List Byte :=
  List.replicate 54 0

/-- The deadline of a slot's offer wait entry (R134). -/
def State.offerDeadline (s : State) (slot : Nat) : Option Win :=
  (s.offerWait.find? fun e => e.slot = slot).map OfferWait.deadline

/-- The fields of a READ answer: the record, the final count, and the offer wait deadline (R23, R134, log 15). -/
def readFields (slot : Nat) (s : State) : List Byte :=
  (match s.sub? slot with
    | none => vacantBytes
    | some x => x.bytes) ++ leBytes 2 (s.slot slot).finalCount ++ optBytes winBytes (s.offerDeadline slot)

/-- The act of a SUBSCRIBER READ (R23). -/
def readAct (p : Port) (n : SubName) : Act :=
  withSlot p n fun slot s => (s, { code := .done, fields := readFields slot s })

/-- SUBSCRIBER READ (R23). -/
def execSubscriberRead (p : Port) (ix : Fin 64) (n : SubName) (b : Bus) (s : State) : Out :=
  slipEvent p ix b (readAct p n) s

/-! ### ADD (R13, R14) -/

/-- The first check of an ADD that fails, in the order of R12 and R13. -/
def addRefusal (p : Port) (r : AddReq) (s : State) : Option Code :=
  if s.holds p = false then some .notControl
  else if 16383 < r.slot.toNat then some .badSlot
  else if (s.sub? r.slot.toNat).isSome then some .slotInUse
  else if (s.slot r.slot.toNat).finalCount ≠ 0 then some .slotDraining
  else if badNumber r.number then some .badNumber
  else if badPager r.pager then some .badPager
  else if (Assoc.get? r.number.toNat s.numbers).isSome then some .numberInUse
  else if (Assoc.get? r.pager.toNat s.pagers).isSome then some .pagerInUse
  else if r.area = 0 then some .emptyArea
  else if 15 < r.plan.toNat then some .badPlan
  else none

/-- The account that ADD sets up (R164). -/
def newAccount (pl : Plan) (period : BitVec 8) : Account :=
  { balance := 0, committed := 0, usage := 0, allowance := pl.allowance, period := period, periodCharge := 0,
    periodCount := 0, periodAllowance := 0, postpaid := .opened }

/-- The record that ADD writes (R14). -/
def newSubscriber (r : AddReq) (plan : Fin 16) (s : State) : Subscriber :=
  { state := .active, number := r.number.toNat, pager := r.pager.toNat, plan := plan, twoWay := r.twoWay,
    home := (homeOf r.home).1, wake := (wakeOf r.wake).1, area := r.area, lastKnown := none, tag := none,
    tagState := .none, offers := 0, pending := none, lastReply := none, nextSeq := 0, queue := [],
    override := r.override, ownBase := r.ownBase.toNat, ownCell := r.ownCell.toNat,
    account := newAccount (s.plan plan) s.globalPeriod }

/-- The act of an ADD (R13, R14). -/
def addAct (p : Port) (r : AddReq) : Act := fun s =>
  match addRefusal p r s, asPlan r.plan.toNat with
  | some c, _ => refuse c s
  | none, none => refuse .badPlan s
  | none, some plan =>
    let t := s.setSlot r.slot.toNat { sub := some (newSubscriber r plan s), finalCount := (s.slot r.slot.toNat).finalCount }
    ({ t with numbers := Assoc.put r.number.toNat r.slot.toNat t.numbers,
              pagers := Assoc.put r.pager.toNat r.slot.toNat t.pagers },
     { code := .done, flags := slipFlags ((homeOf r.home).2 || (wakeOf r.wake).2) false false false })

/-- SUBSCRIBER ADD (R13). -/
def execSubscriberAdd (p : Port) (ix : Fin 64) (r : AddReq) (b : Bus) (s : State) : Out :=
  slipEvent p ix b (addAct p r) s

/-! ### MODIFY (R15 to R19) -/

/-- A number is held by a slot other than this one. -/
def heldByOther (slot k : Nat) (m : List (Nat × Nat)) : Bool :=
  match Assoc.get? k m with
  | none => false
  | some n => decide (n ≠ slot)

/-- The MODIFY selects a pager number other than the current one. -/
def changesPager (r : ModReq) (x : Subscriber) : Bool :=
  match r.pager with
  | none => false
  | some v => decide (v.toNat ≠ x.pager)

/-- The MODIFY selects a two-way flag other than the current one. -/
def changesTwoWay (r : ModReq) (x : Subscriber) : Bool :=
  match r.twoWay with
  | none => false
  | some v => decide (v ≠ x.twoWay)

/-- The first check of a MODIFY that fails after the common checks, in the order of R15. -/
def modifyRefusal (slot : Nat) (x : Subscriber) (r : ModReq) (s : State) : Option Code :=
  if (r.number.map badNumber).getD false then some .badNumber
  else if (r.pager.map badPager).getD false then some .badPager
  else if (r.number.map fun v => heldByOther slot v.toNat s.numbers).getD false then some .numberInUse
  else if (r.pager.map fun v => heldByOther slot v.toNat s.pagers).getD false then some .pagerInUse
  else if r.area = some 0 then some .emptyArea
  else if (r.plan.map fun v => decide (15 < v.toNat)).getD false then some .badPlan
  else if (changesPager r x || changesTwoWay r x) && s.inFlight slot then some .inFlight
  else none

/-- A selected home window or wake class was clamped (R15). -/
def scheduleClamped (r : ModReq) : Bool :=
  (r.home.map fun v => (homeOf v).2).getD false || (r.wake.map fun v => (wakeOf v).2).getD false

/-- Replaces the subscriber number and its directory entry (R16). -/
def changeNumber (slot : Nat) (x : Subscriber) (v : Option Word) (s : State) : State :=
  match v with
  | none => s
  | some v =>
    if v.toNat = x.number then s
    else
      { s with numbers := Assoc.put v.toNat slot (Assoc.erase x.number s.numbers) }.modSub slot fun y =>
        { y with number := v.toNat }

/-- Replaces the pager number and its map entry; a change makes the last-known zone set and the last reply window absent
(R16). -/
def changePager (slot : Nat) (x : Subscriber) (r : ModReq) (s : State) : State :=
  match r.pager with
  | none => s
  | some v =>
    if changesPager r x then
      { s with pagers := Assoc.put v.toNat slot (Assoc.erase x.pager s.pagers) }.modSub slot fun y =>
        { y with pager := v.toNat, lastKnown := none, lastReply := none }
    else s

/-- Replaces the two-way flag; a change to no makes the last-known zone set absent (R16). -/
def changeTwoWay (slot : Nat) (x : Subscriber) (r : ModReq) (s : State) : State :=
  match r.twoWay with
  | none => s
  | some v =>
    if changesTwoWay r x then
      s.modSub slot fun y => { y with twoWay := v, lastKnown := if v then y.lastKnown else none }
    else s

/-- The tag release and the drop of a pending TAG-WITHDRAW after a change of pager number or two-way flag (R16). -/
def changeTag (slot : Nat) (x : Subscriber) (r : ModReq) (s : State) : State :=
  if changesPager r x || changesTwoWay r x then dropWithdraw slot (tagRelease slot s) else s

/-- Takes a pending control item out of the loads it was placed in, and changes its due window by `f`; its placed mark
becomes no (R84, R95). -/
def takeBackPending (slot : Nat) (f : Win → Win) (s : State) : State :=
  match (s.sub? slot).bind Subscriber.pending with
  | none => s
  | some pd =>
    (unplace slot pd s).modSub slot fun y => { y with pending := some { pd with due := f pd.due, placed := false } }

/-- Moves a pending control item's due window to `w`; it leaves the loads it was placed in (R17, R95). DESIGN CHOICE
(log 31): a placed item whose due window is `w` already is moved like any other. -/
def movePending (slot : Nat) (w : Win) (s : State) : State :=
  takeBackPending slot (fun _ => w) s

/-- Replaces the schedule; a change re-dues the waiting work (R17). -/
def changeSchedule (slot : Nat) (x : Subscriber) (r : ModReq) (s : State) : State :=
  let home := (r.home.map fun v => (homeOf v).1).getD x.home
  let wake := (r.wake.map fun v => (wakeOf v).1).getD x.wake
  if home = x.home ∧ wake = x.wake then s
  else
    let w := firstWake home wake (s.now + 2)
    movePending slot w (redueWaiting w x.queue (s.modSub slot fun y => { y with home := home, wake := wake }))

/-- Replaces the service area, and intersects the last-known zone set with it (R18); a change takes a placed control item
out of its loads (R96). DESIGN CHOICE (log 37): the item keeps its due window, and its placed mark becomes no. -/
def changeArea (slot : Nat) (x : Subscriber) (v : Option ZoneSet) (s : State) : State :=
  match v with
  | none => s
  | some a =>
    let t := s.modSub slot fun y =>
      { y with area := a, lastKnown := y.lastKnown.bind fun k => if k &&& a = 0 then none else some (k &&& a) }
    if a = x.area then t else takeBackPending slot id t

/-- Replaces the plan; attempts over the new retry limit + 1 are trimmed (R19, R138). -/
def changePlan (slot : Nat) (x : Subscriber) (v : Option Byte) (s : State) : State :=
  match v.bind fun b => asPlan b.toNat with
  | none => s
  | some pl =>
    if pl = x.plan then s
    else trimAttempts (fun n => n == slot) (s.plan pl).retryLimit (s.modSub slot fun y => { y with plan := pl })

/-- Replaces the rate override flag and the own rates (R19). -/
def changeRates (slot : Nat) (r : ModReq) (s : State) : State :=
  s.modSub slot fun y =>
    { y with override := r.override.getD y.override, ownBase := (r.rates.map fun v => v.1.toNat).getD y.ownBase,
             ownCell := (r.rates.map fun v => v.2.toNat).getD y.ownCell }

/-- The changes of a MODIFY whose checks pass, in the order of R16 to R19. -/
def applyModify (slot : Nat) (x : Subscriber) (r : ModReq) (s : State) : State :=
  let s := changeTag slot x r (changeTwoWay slot x r (changePager slot x r (changeNumber slot x r.number s)))
  changeRates slot r (changePlan slot x r.plan (changeArea slot x r.area (changeSchedule slot x r s)))

/-- The act of a MODIFY (R15); its answer reports the record as it stands afterwards. DESIGN CHOICE (log 49): it has the
fields of a READ answer, the offer wait deadline of R134 among them. -/
def modifyAct (p : Port) (n : SubName) (r : ModReq) : Act :=
  withSubscriber p n fun slot x s =>
    match modifyRefusal slot x r s with
    | some c => refuse c s
    | none =>
      let t := applyModify slot x r s
      (t, { code := .done, flags := slipFlags (scheduleClamped r) false false false, fields := readFields slot t })

/-- SUBSCRIBER MODIFY (R15). -/
def execSubscriberModify (p : Port) (ix : Fin 64) (n : SubName) (r : ModReq) (b : Bus) (s : State) : Out :=
  slipEvent p ix b (modifyAct p n r) s

/-! ### SUSPEND, RESUME and REMOVE (R20 to R22) -/

/-- The act of a SUSPEND (R20). -/
def suspendAct (p : Port) (n : SubName) : Act :=
  withSubscriber p n fun slot _ s => (s.modSub slot fun y => { y with state := .suspended }, { code := .done })

/-- SUBSCRIBER SUSPEND (R20). -/
def execSubscriberSuspend (p : Port) (ix : Fin 64) (n : SubName) (b : Bus) (s : State) : Out :=
  slipEvent p ix b (suspendAct p n) s

/-- The act of a RESUME (R21). -/
def resumeAct (p : Port) (n : SubName) : Act :=
  withSubscriber p n fun slot x s =>
    if x.state = .active then (s, { code := .done })
    else
      (redueWaiting (x.wakeAt (s.now + 2)) x.queue (s.modSub slot fun y => { y with state := .active }),
       { code := .done })

/-- SUBSCRIBER RESUME (R21). -/
def execSubscriberResume (p : Port) (ix : Fin 64) (n : SubName) (b : Bus) (s : State) : Out :=
  slipEvent p ix b (resumeAct p n) s

/-- The five steps of a REMOVE (R22). -/
def removeSubscriber (slot : Nat) (x : Subscriber) (s : State) : State :=
  let s := finalizeAll .withdrawn x.queue s
  let s := { s with merge := s.merge.filter fun e => e.slot != slot }
  let s := dropWithdraw slot (tagRelease slot s)
  let s := { s with numbers := Assoc.erase x.number s.numbers, pagers := Assoc.erase x.pager s.pagers }
  s.setSlot slot { sub := none, finalCount := (s.slot slot).finalCount }

/-- The act of a REMOVE (R22). -/
def removeAct (p : Port) (n : SubName) : Act :=
  withSubscriber p n fun slot x s => (removeSubscriber slot x s, { code := .done })

/-- SUBSCRIBER REMOVE (R22). -/
def execSubscriberRemove (p : Port) (ix : Fin 64) (n : SubName) (b : Bus) (s : State) : Out :=
  slipEvent p ix b (removeAct p n) s

end Sys2Proof.Machine
end

