-- ==== Sys2Proof/Machine/ZoneSlips.lean ====
section
/-! DEFINITION. The ZONE slips (R99, R100, R113): IN-SERVICE, OUT-OF-SERVICE, TEST and QUERY. -/

namespace Sys2Proof.Machine

/-- BAD-ZONE, then NOT-CONTROL where the operation needs control (R99). -/
def withZone (needsControl : Bool) (p : Port) (zone : Word) (op : Fin 8 → Act) : Act := fun s =>
  match asFin8 zone with
  | none => refuse .badZone s
  | some z => if needsControl ∧ s.holds p = false then refuse .notControl s else op z s

/-- The service state in a ZONE answer: 0 IN-SERVICE, 1 OUT-OF-SERVICE, in the order of R98 (log 15). -/
def serviceByte (inService : Bool) : List Byte :=
  [if inService then 0 else 1]

/-- The controller status in a ZONE answer: 0 ON-AIR, 1 OFF-AIR, in the order of R98 (log 15). -/
def statusByte (onAir : Bool) : List Byte :=
  [if onAir then 0 else 1]

/-- The answer of IN-SERVICE, OUT-OF-SERVICE and TEST: the link state and service state afterwards (R99). -/
def zoneStateAnswer (z : Fin 8) (s : State) : State × Answer :=
  (s, { code := .done, fields := leBytes 1 (s.zone z).link.toNat ++ serviceByte (s.zone z).inService })

/-- IN-SERVICE of a zone in IDLE or TEST takes it to SYNC (R100); an echo awaited is dropped (R114). -/
def zoneInService (z : Fin 8) (s : State) : State :=
  let old := (s.zone z).link
  if old = .idle ∨ old = .test then
    zoneChange z old .slip (s.modZone z fun zn =>
      { zn with link := .sync, inService := true, onAir := false, goodProbes := 0, errorsSweep := 0, echo := none })
  else s

/-- OUT-OF-SERVICE of a zone that is not IDLE takes it to IDLE (R100); a transfer in progress is abandoned (R108), and an
echo or probe awaited is dropped (R114, log 20). -/
def zoneOutOfService (z : Fin 8) (s : State) : State :=
  let old := (s.zone z).link
  if old = .idle then s
  else
    zoneChange z old .slip (s.modZone z fun zn =>
      { zn.abandon with link := .idle, inService := false, onAir := false, goodProbes := 0, echo := none, probeMs := none })

/-- TEST of a zone in IDLE takes it to TEST, with the test set up (R100, R113). -/
def zoneTest (z : Fin 8) (s : State) : State :=
  if (s.zone z).link = .idle then
    zoneChange z .idle .slip (s.modZone z fun zn =>
      { zn with link := .test, onAir := false, pattern := 0x1FF#9, testLoads := 0, testMismatches := 0 })
  else s

/-- A held load in a ZONE QUERY: its window, its transfer state and its sends made (R98, R99). -/
def Load.queryBytes (ld : Load) : List Byte :=
  winBytes ld.window ++ leBytes 1 ld.xfer.toNat ++ leBytes 1 ld.sends

/-- The fields of a ZONE QUERY: every item of R98 but the pattern register in its order, and the last build values
(R99, log 15). -/
def zoneQueryFields (zn : Zone) : List Byte :=
  leBytes 1 zn.link.toNat ++ serviceByte zn.inService ++ statusByte zn.onAir ++ leBytes 1 zn.goodProbes ++
  listBytes Load.queryBytes zn.held ++ leBytes 1 zn.errorsSweep ++ leBytes 2 zn.errorTotal ++ leBytes 2 zn.loadsOnAir ++
  leBytes 2 zn.loadsMissed ++ leBytes 2 zn.resends ++ leBytes 2 zn.strayAnswers ++ leBytes 2 zn.testLoads ++
  leBytes 2 zn.testMismatches ++ optBytes (fun e : Nat × Nat => leBytes 1 e.1 ++ leBytes 1 e.2) zn.lastBuild

/-- ZONE IN-SERVICE (R99, R100). -/
def execZoneInService (p : Port) (ix : Fin 64) (zone : Word) (b : Bus) (s : State) : Out :=
  slipEvent p ix b (withZone true p zone fun z s => zoneStateAnswer z (zoneInService z s)) s

/-- ZONE OUT-OF-SERVICE (R99, R100). -/
def execZoneOutOfService (p : Port) (ix : Fin 64) (zone : Word) (b : Bus) (s : State) : Out :=
  slipEvent p ix b (withZone true p zone fun z s => zoneStateAnswer z (zoneOutOfService z s)) s

/-- The act of a ZONE TEST on a zone that exists: NOT-IDLE in SYNC, LINKED and DOWN (R99). -/
def zoneTestAct (z : Fin 8) : Act := fun s =>
  match (s.zone z).link with
  | .sync => refuse .notIdle s
  | .linked => refuse .notIdle s
  | .down => refuse .notIdle s
  | .idle => zoneStateAnswer z (zoneTest z s)
  | .test => zoneStateAnswer z (zoneTest z s)

/-- ZONE TEST (R99, R113). -/
def execZoneTest (p : Port) (ix : Fin 64) (zone : Word) (b : Bus) (s : State) : Out :=
  slipEvent p ix b (withZone true p zone zoneTestAct) s

/-- ZONE QUERY (R99), from either port. -/
def execZoneQuery (p : Port) (ix : Fin 64) (zone : Word) (b : Bus) (s : State) : Out :=
  slipEvent p ix b (withZone false p zone fun z s => (s, { code := .done, fields := zoneQueryFields (s.zone z) })) s

end Sys2Proof.Machine
end

