-- ==== Sys2Proof/Machine/Dispatch.lean ====
section
/-! DEFINITION. The dispatch of the commands: one arm for each constructor of `Instr`. -/

namespace Sys2Proof.Machine

def exec (i : Instr) (s : State) : Host.Outcome State Fault Refusal :=
  match i with
  | .powerOnReset => Sys2Proof.Machine.execPowerOnReset s
  | .startUpWalkVisit places b => Sys2Proof.Machine.execStartUpWalkVisit places b s
  | .portReset p b => Sys2Proof.Machine.execPortReset p b s
  | .scanRequest p b => Sys2Proof.Machine.execScanRequest p b s
  | .noticeClear p v b => Sys2Proof.Machine.execNoticeClear p v b s
  | .noticeEnableWrite p v b => Sys2Proof.Machine.execNoticeEnableWrite p v b s
  | .registerWrite p r v b => Sys2Proof.Machine.execRegisterWrite p r v b s
  | .controlTry p b => Sys2Proof.Machine.execControlTry p b s
  | .controlRelease p b => Sys2Proof.Machine.execControlRelease p b s
  | .controlForce p b => Sys2Proof.Machine.execControlForce p b s
  | .controlPeer p v b => Sys2Proof.Machine.execControlPeer p v b s
  | .windowTimerExpiry b => Sys2Proof.Machine.execWindowTimerExpiry b s
  | .strobe t b => Sys2Proof.Machine.execStrobe t b s
  | .toleranceExpiry b => Sys2Proof.Machine.execToleranceExpiry b s
  | .coolDownEnd b => Sys2Proof.Machine.execCoolDownEnd b s
  | .lateEntryMove b => Sys2Proof.Machine.execLateEntryMove b s
  | .messageExpiry b => Sys2Proof.Machine.execMessageExpiry b s
  | .windowBuild b => Sys2Proof.Machine.execWindowBuild b s
  | .loadDeclaration b => Sys2Proof.Machine.execLoadDeclaration b s
  | .deadlineExamination order b => Sys2Proof.Machine.execDeadlineExamination order b s
  | .mergeClose b => Sys2Proof.Machine.execMergeClose b s
  | .offerDeadline b => Sys2Proof.Machine.execOfferDeadline b s
  | .idleRelease b => Sys2Proof.Machine.execIdleRelease b s
  | .lineSweepStart b => Sys2Proof.Machine.execLineSweepStart b s
  | .zoneSweepStart b => Sys2Proof.Machine.execZoneSweepStart b s
  | .zoneProbe z b => Sys2Proof.Machine.execZoneProbe z b s
  | .testLoadSend z b => Sys2Proof.Machine.execTestLoadSend z b s
  | .sealDelayExpiry p b => Sys2Proof.Machine.execSealDelayExpiry p b s
  | .headerRefresh p b => Sys2Proof.Machine.execHeaderRefresh p b s
  | .replyFrameWindowDiscard k b => Sys2Proof.Machine.execReplyFrameWindowDiscard k b s
  | .scan p b => Sys2Proof.Machine.execScan p b s
  | .scanEnd p pages b => Sys2Proof.Machine.execScanEnd p pages b s
  | .pageChoice p pages b => Sys2Proof.Machine.execPageChoice p pages b s
  | .journalRecordWrite p b => Sys2Proof.Machine.execJournalRecordWrite p b s
  | .periodWalkStep b => Sys2Proof.Machine.execPeriodWalkStep b s
  | .periodEnd b => Sys2Proof.Machine.execPeriodEnd b s
  | .submit p ix r b => Sys2Proof.Machine.execSubmit p ix r b s
  | .cancel p ix serial b => Sys2Proof.Machine.execCancel p ix serial b s
  | .query p ix serial b => Sys2Proof.Machine.execQuery p ix serial b s
  | .release p ix serial b => Sys2Proof.Machine.execRelease p ix serial b s
  | .subscriberAdd p ix r b => Sys2Proof.Machine.execSubscriberAdd p ix r b s
  | .subscriberModify p ix n r b => Sys2Proof.Machine.execSubscriberModify p ix n r b s
  | .subscriberSuspend p ix n b => Sys2Proof.Machine.execSubscriberSuspend p ix n b s
  | .subscriberResume p ix n b => Sys2Proof.Machine.execSubscriberResume p ix n b s
  | .subscriberRemove p ix n b => Sys2Proof.Machine.execSubscriberRemove p ix n b s
  | .subscriberRead p ix n b => Sys2Proof.Machine.execSubscriberRead p ix n b s
  | .tariffSet p ix plan r b => Sys2Proof.Machine.execTariffSet p ix plan r b s
  | .tariffRead p ix plan b => Sys2Proof.Machine.execTariffRead p ix plan b s
  | .credit p ix n amount b => Sys2Proof.Machine.execCredit p ix n amount b s
  | .setBand p ix band b => Sys2Proof.Machine.execSetBand p ix band b s
  | .periodClose p ix b => Sys2Proof.Machine.execPeriodClose p ix b s
  | .periodStatus p ix b => Sys2Proof.Machine.execPeriodStatus p ix b s
  | .lineOpen p ix line b => Sys2Proof.Machine.execLineOpen p ix line b s
  | .lineClose p ix line b => Sys2Proof.Machine.execLineClose p ix line b s
  | .lineRead p ix line b => Sys2Proof.Machine.execLineRead p ix line b s
  | .zoneInService p ix zone b => Sys2Proof.Machine.execZoneInService p ix zone b s
  | .zoneOutOfService p ix zone b => Sys2Proof.Machine.execZoneOutOfService p ix zone b s
  | .zoneTest p ix zone b => Sys2Proof.Machine.execZoneTest p ix zone b s
  | .zoneQuery p ix zone b => Sys2Proof.Machine.execZoneQuery p ix zone b s
  | .settingsSet p ix r b => Sys2Proof.Machine.execSettingsSet p ix r b s
  | .settingsRead p ix b => Sys2Proof.Machine.execSettingsRead p ix b s
  | .malformedSlip p ix kind op b => Sys2Proof.Machine.execMalformedSlip p ix kind op b s
  | .lineSubmitFrame l byte b => Sys2Proof.Machine.execLineSubmitFrame l byte b s
  | .lineProbeFrame l byte b => Sys2Proof.Machine.execLineProbeFrame l byte b s
  | .bodyLengthOverrun l byte b => Sys2Proof.Machine.execBodyLengthOverrun l byte b s
  | .lineFramingFailure l b => Sys2Proof.Machine.execLineFramingFailure l b s
  | .frameTimeout l b => Sys2Proof.Machine.execFrameTimeout l b s
  | .answerSent l b => Sys2Proof.Machine.execAnswerSent l b s
  | .entryLineByteArrival l byte b => Sys2Proof.Machine.execEntryLineByteArrival l byte b s
  | .ack k byte b => Sys2Proof.Machine.execAck k byte b s
  | .gap k byte b => Sys2Proof.Machine.execGap k byte b s
  | .register k byte b => Sys2Proof.Machine.execRegister k byte b s
  | .tagConfirm k byte b => Sys2Proof.Machine.execTagConfirm k byte b s
  | .replyLinkFramingFailure k b => Sys2Proof.Machine.execReplyLinkFramingFailure k b s
  | .replyLinkByteArrival k byte b => Sys2Proof.Machine.execReplyLinkByteArrival k byte b s
  | .loadOk z byte b => Sys2Proof.Machine.execLoadOk z byte b s
  | .loadBad z byte b => Sys2Proof.Machine.execLoadBad z byte b s
  | .loadAnswerTimeout z b => Sys2Proof.Machine.execLoadAnswerTimeout z b s
  | .probeOk z byte b => Sys2Proof.Machine.execProbeOk z byte b s
  | .probeTimeout z b => Sys2Proof.Machine.execProbeTimeout z b s
  | .echo z byte b => Sys2Proof.Machine.execEcho z byte b s
  | .echoTimeout z b => Sys2Proof.Machine.execEchoTimeout z b s
  | .answerAssemblyTimeout z b => Sys2Proof.Machine.execAnswerAssemblyTimeout z b s
  | .zoneLinkFramingFailure z b => Sys2Proof.Machine.execZoneLinkFramingFailure z b s
  | .unknownAnswerKind z byte b => Sys2Proof.Machine.execUnknownAnswerKind z byte b s
  | .controllerAnswerByte z byte b => Sys2Proof.Machine.execControllerAnswerByte z byte b s

end Sys2Proof.Machine
end

