-- ==== Sys2Proof/Safety.lean ====
section
/-! DEFINITION. What claims about the machine are stated in: how an event ends with its header writes, a slip taken in a
running scan, and the invariants of the part. -/

namespace Sys2Proof.Machine

/-! ### The end of an event -/

/-- A port unit without what a header write may change: the bytes it has written, and the capture of a fault. -/
def PortUnit.bare (u : PortUnit) : PortUnit :=
  { u with hostMem := [], faultWord := none, faultCount := 0, locked := false, notice := u.notice &&& ~~~Notice.fault.mask }

/-- The state without what the header writes at the end of an event may change. -/
def State.bare (s : State) : State :=
  { s with portA := s.portA.bare, portB := s.portB.bare }

/-- The capture of faults at a port unit: the word, the count, the lock and NOTICE (R188). -/
def PortUnit.faults (u : PortUnit) : Option FaultWord × Nat × Bool × BitVec 10 :=
  (u.faultWord, u.faultCount, u.locked, u.notice)

/-- An address in one of the two header parts of an exchange area (R184). -/
def headerByte (area : Option Nat) (a : Nat) : Prop :=
  ∃ base, area = some base ∧ ((base ≤ a ∧ a < base + 0x100) ∨ (base + 0x200 ≤ a ∧ a < base + 0x400))

/-- `t` is the state `e` that an event has made, but for the header writes with which the event ends: nothing else has
changed, faults are captured only by a header write that met a bus error, and no byte outside the headers is written. -/
structure EndsAs (b : Bus) (e t : State) : Prop where
  bare    : t.bare = e.bare
  faultsA : b.headerA = false → t.portA.faults = e.portA.faults
  faultsB : b.headerB = false → t.portB.faults = e.portB.faults
  memory  : ∀ (p : Port) (a : Nat), ¬ headerByte (e.port p).area a →
    memRead a (t.port p).hostMem = memRead a (e.port p).hostMem

/-- The command completes: it answers a next state that is `e` but for the header writes. -/
def Completes (c : Instr) (b : Bus) (s e : State) : Prop :=
  ∃ t, exec c s = .next t ∧ EndsAs b e t

/-- A STATE-CHANGE record is offered to both ports: it joins the report queue of a port whose non-message backlog is below
64; at the other it is dropped, counted and marked (R176). -/
def RecordOffered (r : StateChange) (s t : State) : Prop :=
  ∀ p, if (s.port p).queue.countP Item.isRecord < 64 then (t.port p).queue = (s.port p).queue ++ [.stateChange r]
    else (t.port p).queue = (s.port p).queue ∧ (t.port p).gap = true ∧
      (t.port p).dropped = min 65535 ((s.port p).dropped + 1)

/-- STATE-CHANGE records are offered to both ports in the order of the list: those that find the non-message backlog of a
port below 64 join its report queue; the others are dropped there, counted and marked (R176). -/
def RecordsOffered (rs : List StateChange) (s t : State) : Prop :=
  ∀ p, let room := 64 - (s.port p).queue.countP Item.isRecord
    (t.port p).queue = (s.port p).queue ++ (rs.map Item.stateChange).take room ∧
    (t.port p).gap = ((s.port p).gap || decide (room < rs.length)) ∧
    (t.port p).dropped =
      if rs.length ≤ room then (s.port p).dropped else min 65535 ((s.port p).dropped + (rs.length - room))

/-- Zone `z` becomes `x`, its records are offered to both ports, ZONE (bit 7) is raised there if there is one, and nothing
else changes but for the header writes (R100, R102). -/
def ZoneChanged (z : Fin 8) (x : Zone) (rs : List StateChange) (s t : State) : Prop :=
  t.zone z = x ∧ (∀ y, y ≠ z → t.zone y = s.zone y) ∧ RecordsOffered rs s t ∧
    (∀ p, { (t.port p).bare with queue := (s.port p).queue, gap := (s.port p).gap, dropped := (s.port p).dropped } =
      { (s.port p).bare with
        notice := (s.port p).bare.notice ||| (if rs.isEmpty then 0#10 else Notice.zone.mask) }) ∧
    (∀ p a, ¬ headerByte (s.port p).area a → memRead a (t.port p).hostMem = memRead a (s.port p).hostMem) ∧
    { t.bare with zones := s.zones, portA := s.bare.portA, portB := s.bare.portB } = s.bare

/-! ### Slips -/

/-- A scan reaches a POSTED slip at an index: the port has an area in use, a running scan has not passed the index, no kept
answer waits and no access of the slip meets a bus error (R185, R186). -/
structure Taking (p : Port) (ix : Fin 64) (b : Bus) (s : State) : Prop where
  scan   : s.canTake p ix = true
  kept   : (s.port p).kept = []
  read   : b.slipRead = false
  answer : b.answer = false
  mark   : b.mark = false

/-- The state in which a slip is acted on: the scan has examined the indices up to and including its own (R185). -/
def State.reached (p : Port) (ix : Fin 64) (s : State) : State :=
  s.modPort p fun u => { u with scan := u.scan.map fun r => { r with examined := r.offset ix + 1 } }

/-- The port's scan after it has taken and answered the slip (R185). -/
def State.answeredBy (p : Port) (ix : Fin 64) (s : State) : State :=
  s.modPort p fun u => { u with scan := u.scan.map fun r => { r with answered := true, lastTaken := some ix } }

/-- The bytes of an answer from offset 8 of its slip (section 11.9.4). -/
def Answer.bytes (a : Answer) : List Byte :=
  leBytes 2 a.code.toNat ++ leBytes 2 a.flags.toNat ++ [0, 0, 0, 0] ++ a.fields

/-- The host finds the slip ANSWERED with this answer, no byte outside the slip and the headers has changed, and faults
are captured only by a header write that met a bus error. -/
structure SlipHolds (p : Port) (ix : Fin 64) (b : Bus) (a : Answer) (e t : State) : Prop where
  faultsA : b.headerA = false → t.portA.faults = e.portA.faults
  faultsB : b.headerB = false → t.portB.faults = e.portB.faults
  marked  : ∀ base, (e.port p).area = some base → memRead (slipAddress base ix) (t.port p).hostMem = some 2
  bytes   : ∀ base, (e.port p).area = some base → ∀ i, i < a.bytes.length →
    memRead (slipAddress base ix + 8 + i) (t.port p).hostMem = a.bytes[i]?
  memory  : ∀ base, (e.port p).area = some base → ∀ x, ¬ headerByte (some base) x →
    x ≠ slipAddress base ix → (x < slipAddress base ix + 8 ∨ slipAddress base ix + 8 + a.bytes.length ≤ x) →
      memRead x (t.port p).hostMem = memRead x (e.port p).hostMem
  other   : ∀ x, ¬ headerByte (e.port p.other).area x →
    memRead x (t.port p.other).hostMem = memRead x (e.port p.other).hostMem

/-- The slip command is taken, has effect `e` on everything but the scan, and is answered `a` in place. -/
def Answers (c : Instr) (p : Port) (ix : Fin 64) (b : Bus) (s e : State) (a : Answer) : Prop :=
  ∃ t, exec c s = .next t ∧ t.bare = (e.answeredBy p ix).bare ∧ SlipHolds p ix b a e t

/-- A selector and name that name a slot (R12): its own number, or a subscriber number of the directory. -/
def Names (n : SubName) (slot : Nat) (s : State) : Prop :=
  (n.selector = 0 ∧ n.name.toNat = slot ∧ slot ≤ 16383) ∨
    (n.selector = 1 ∧ Assoc.get? n.name.toNat s.numbers = some slot)

/-- The port, index and bus answers of a slip command. -/
def slipOf : Instr → Option (Port × Fin 64 × Bus)
  | .submit p ix _ b => some (p, ix, b)
  | .cancel p ix _ b => some (p, ix, b)
  | .query p ix _ b => some (p, ix, b)
  | .release p ix _ b => some (p, ix, b)
  | .subscriberAdd p ix _ b => some (p, ix, b)
  | .subscriberModify p ix _ _ b => some (p, ix, b)
  | .subscriberSuspend p ix _ b => some (p, ix, b)
  | .subscriberResume p ix _ b => some (p, ix, b)
  | .subscriberRemove p ix _ b => some (p, ix, b)
  | .subscriberRead p ix _ b => some (p, ix, b)
  | .tariffSet p ix _ _ b => some (p, ix, b)
  | .tariffRead p ix _ b => some (p, ix, b)
  | .credit p ix _ _ b => some (p, ix, b)
  | .setBand p ix _ b => some (p, ix, b)
  | .periodClose p ix b => some (p, ix, b)
  | .periodStatus p ix b => some (p, ix, b)
  | .lineOpen p ix _ b => some (p, ix, b)
  | .lineClose p ix _ b => some (p, ix, b)
  | .lineRead p ix _ b => some (p, ix, b)
  | .zoneInService p ix _ b => some (p, ix, b)
  | .zoneOutOfService p ix _ b => some (p, ix, b)
  | .zoneTest p ix _ b => some (p, ix, b)
  | .zoneQuery p ix _ b => some (p, ix, b)
  | .settingsSet p ix _ b => some (p, ix, b)
  | .settingsRead p ix b => some (p, ix, b)
  | .malformedSlip p ix kind op b => if knownSlip kind op then none else some (p, ix, b)
  | _ => none

/-- The slip commands that only the port that holds control may have carried out (R12, R56, R99, R166, R169 to R171,
R189). -/
def needsControl : Instr → Bool
  | .subscriberAdd _ _ _ _ => true
  | .subscriberModify _ _ _ _ _ => true
  | .subscriberSuspend _ _ _ _ => true
  | .subscriberResume _ _ _ _ => true
  | .subscriberRemove _ _ _ _ => true
  | .subscriberRead _ _ _ _ => true
  | .tariffSet _ _ _ _ _ => true
  | .credit _ _ _ _ _ => true
  | .setBand _ _ _ _ => true
  | .periodClose _ _ _ => true
  | .lineOpen _ _ _ _ => true
  | .lineClose _ _ _ _ => true
  | .zoneInService _ _ _ _ => true
  | .zoneOutOfService _ _ _ _ => true
  | .zoneTest _ _ _ _ => true
  | .settingsSet _ _ _ _ => true
  | _ => false

/-- The check before that of control which a slip command fails, if there is one: a selector that is neither of the two, or
a plan, line or zone number that none has (R12, R56, R99, R166, R169). -/
def failsBeforeControl : Instr → Option Code
  | .subscriberModify _ _ n _ _ => if n.selector ≠ 0 ∧ n.selector ≠ 1 then some .malformed else none
  | .subscriberSuspend _ _ n _ => if n.selector ≠ 0 ∧ n.selector ≠ 1 then some .malformed else none
  | .subscriberResume _ _ n _ => if n.selector ≠ 0 ∧ n.selector ≠ 1 then some .malformed else none
  | .subscriberRemove _ _ n _ => if n.selector ≠ 0 ∧ n.selector ≠ 1 then some .malformed else none
  | .subscriberRead _ _ n _ => if n.selector ≠ 0 ∧ n.selector ≠ 1 then some .malformed else none
  | .credit _ _ n _ _ => if n.selector ≠ 0 ∧ n.selector ≠ 1 then some .malformed else none
  | .tariffSet _ _ n _ _ => if 16 ≤ n.toNat then some .badPlan else none
  | .lineOpen _ _ n _ => if 8 ≤ n.toNat then some .badLine else none
  | .lineClose _ _ n _ => if 8 ≤ n.toNat then some .badLine else none
  | .zoneInService _ _ n _ => if 8 ≤ n.toNat then some .badZone else none
  | .zoneOutOfService _ _ n _ => if 8 ≤ n.toNat then some .badZone else none
  | .zoneTest _ _ n _ => if 8 ≤ n.toNat then some .badZone else none
  | _ => none

/-- A slip command under other bus answers: its slip, port and index are the same. -/
def onBus (b : Bus) : Instr → Instr
  | .submit p ix r _ => .submit p ix r b
  | .cancel p ix n _ => .cancel p ix n b
  | .query p ix n _ => .query p ix n b
  | .release p ix n _ => .release p ix n b
  | .subscriberAdd p ix r _ => .subscriberAdd p ix r b
  | .subscriberModify p ix n r _ => .subscriberModify p ix n r b
  | .subscriberSuspend p ix n _ => .subscriberSuspend p ix n b
  | .subscriberResume p ix n _ => .subscriberResume p ix n b
  | .subscriberRemove p ix n _ => .subscriberRemove p ix n b
  | .subscriberRead p ix n _ => .subscriberRead p ix n b
  | .tariffSet p ix n r _ => .tariffSet p ix n r b
  | .tariffRead p ix n _ => .tariffRead p ix n b
  | .credit p ix n a _ => .credit p ix n a b
  | .setBand p ix v _ => .setBand p ix v b
  | .periodClose p ix _ => .periodClose p ix b
  | .periodStatus p ix _ => .periodStatus p ix b
  | .lineOpen p ix n _ => .lineOpen p ix n b
  | .lineClose p ix n _ => .lineClose p ix n b
  | .lineRead p ix n _ => .lineRead p ix n b
  | .zoneInService p ix n _ => .zoneInService p ix n b
  | .zoneOutOfService p ix n _ => .zoneOutOfService p ix n b
  | .zoneTest p ix n _ => .zoneTest p ix n b
  | .zoneQuery p ix n _ => .zoneQuery p ix n b
  | .settingsSet p ix r _ => .settingsSet p ix r b
  | .settingsRead p ix _ => .settingsRead p ix b
  | .malformedSlip p ix kind op _ => .malformedSlip p ix kind op b
  | c => c

/-! ### The begin of a send -/

/-- Load `ld` is the one a link begins to send, and the held loads become `held'`: the oldest in AWAITING whose window has
not started becomes SENDING with one send made, and the others stand (R104). -/
def BeginsSend (now : Win) (held : List Load) (ld : Load) (held' : List Load) : Prop :=
  ∃ older newer, held = older ++ ld :: newer ∧ ld.xfer = .awaiting ∧ winLater ld.window now = true ∧
    (∀ x ∈ older, ¬ (x.xfer = .awaiting ∧ winLater x.window now = true)) ∧
    held' = older ++ { ld with xfer := .sending, sends := 1 } :: newer

/-- What an answer with a bad check does to a link's exchange in progress (R101, R102, R103, R114): a probe fails, in
LINKED with one error counted and else with good probes 0; a test load is mismatched; with neither nothing happens. -/
def Zone.badlyAnswered (zn : Zone) : Zone :=
  if zn.probeMs.isSome then
    if zn.link = .linked then
      { zn with probeMs := none, errorsSweep := min 255 (zn.errorsSweep + 1), errorTotal := min 65535 (zn.errorTotal + 1) }
    else { zn with probeMs := none, goodProbes := 0, errorTotal := min 65535 (zn.errorTotal + 1) }
  else if zn.echo.isSome then { zn with echo := none, testMismatches := min 65535 (zn.testMismatches + 1) }
  else zn

/-- A failed probe of this link would neither bring it DOWN nor be followed by a send: in LINKED the error it counts stays
below the threshold and no load is held (R104, R107). -/
def Zone.quietFailure (threshold : Nat) (zn : Zone) : Prop :=
  zn.probeMs.isSome = true → zn.link = .linked → zn.held = [] ∧ min 255 (zn.errorsSweep + 1) < threshold

/-- A failed probe of this link brings it DOWN: in LINKED the error it counts reaches the threshold (R107). -/
def Zone.probeBreaks (threshold : Nat) (zn : Zone) : Prop :=
  zn.probeMs.isSome = true ∧ zn.link = .linked ∧ threshold ≤ min 255 (zn.errorsSweep + 1)

/-- The link after a failed probe that brings it DOWN: one error counted, and a load in SENDING ABANDONED (R107, R108). -/
def Zone.broken (zn : Zone) : Zone :=
  { zn with
    link := .down, probeMs := none, errorsSweep := min 255 (zn.errorsSweep + 1), errorTotal := min 65535 (zn.errorTotal + 1),
    held := zn.held.map fun ld => if ld.xfer = .sending then { ld with xfer := .abandoned } else ld }

/-- The record of a zone's link that goes DOWN on its errors (R100, R107). -/
def Zone.downRecord (z : Fin 8) (now : Win) (zn : Zone) : StateChange :=
  { source := .zone z, old := 2, new := 3, cause := .errors, inService := zn.inService, onAir := zn.onAir, window := now }

/-! ### Degrading -/

/-- `d` is what degrading a line's SUBMIT (R54), or preparing a slip's (R57), makes of a class code, a kind code and a
text. A class code over 3 is ROUTINE; a TONE loses its text; a NUMERIC is cut to 40 characters and a TEXT to 240, a character
that its kind does not allow becomes a space or a question mark, and with no character left it is a TONE. -/
def Degraded (cls kind : Byte) (text : List Byte) (d : Prepared') : Prop :=
  let limit := if kind = 1 then 40 else 240
  let allowed : Byte → Bool := fun c =>
    if kind = 1 then decide ((0x30 ≤ c ∧ c ≤ 0x39) ∨ c = 0x20 ∨ c = 0x2D ∨ c = 0x28 ∨ c = 0x29)
    else decide (0x20 ≤ c ∧ c ≤ 0x7E)
  let cut := text.take limit
  let carried := cut.map fun c => if allowed c then c else if kind = 1 then 0x20 else 0x3F
  kind.toNat ≤ 2 ∧ d.cls.toNat = min 3 cls.toNat ∧
    (kind = 0 → d = { cls := d.cls, kind := .tone, text := [], truncated := false,
                      altered := decide (3 < cls.toNat ∨ text ≠ []) }) ∧
    (kind ≠ 0 → d = { cls := d.cls,
                      kind := if carried = [] then .tone else if kind = 1 then .numeric else .text, text := carried,
                      truncated := decide (limit < text.length),
                      altered := decide (3 < cls.toNat ∨ carried ≠ cut ∨ carried = []) })

/-! ### The order of a build -/

/-- The candidates are considered in the order of this list, each with whether it was placed: each is the one that the
selection takes next, and a placement makes the run that the next selection reads (R89). -/
def Considered (grant : Nat) : Run → List Candidate → List (Candidate × Bool) → Prop
  | _, cands, [] => cands = []
  | run, cands, (c, placed) :: rest =>
    ∃ run', selectNext grant run cands = some (c, run') ∧
      Considered grant (if placed then Run.placed c.cls run' else run')
        (cands.filter fun x => x.serial != c.serial) rest

/-! ### Reply frames -/

/-- The command that carries the last byte of a reply frame of this kind. -/
def ReplyKind.frame (rk : ReplyKind) (k : Fin 4) (byte : Byte) (b : Bus) : Instr :=
  match rk with
  | .ack => .ack k byte b
  | .gap => .gap k byte b
  | .register => .register k byte b
  | .tagConfirm => .tagConfirm k byte b

/-- The last byte of a well-made reply frame arrives: eight bytes stand, whose check is the ninth; the tag has 12 bits, the
pager number 24 and the sequence 6, and one of tag and pager number is there (R117, section 11.9.6). -/
def ReplyArrives (k : Fin 4) (byte : Byte) (site : Fin 16) (kind : Byte) (tag pager seq : Nat) (s : State) : Prop :=
  s.part = .ready ∧ tag < 4096 ∧ pager < 2 ^ 24 ∧ seq < 64 ∧ ¬ (tag = 0 ∧ pager = 0) ∧
  let bs := [BitVec.ofNat 8 site.val, kind] ++ beBytes 2 tag ++ beBytes 3 pager ++ [BitVec.ofNat 8 seq]
  (s.replyLink k).rx = some bs ∧ byte = crc8 bs

/-! ### Invariants -/

/-- Every collection of the state that is held by key is in canonical form, the memories that the port units write among
them. -/
structure Canonical (s : State) : Prop where
  slots     : Assoc.wf s.slots
  numbers   : Assoc.wf s.numbers
  pagers    : Assoc.wf s.pagers
  tags      : Assoc.wf s.tags
  msgs      : Assoc.wf s.msgs
  dueCal    : Assoc.wf s.dueCal
  expiryCal : Assoc.wf s.expiryCal
  keptA     : Assoc.wf s.portA.kept
  keptB     : Assoc.wf s.portB.kept
  memA      : Memory.wf s.portA.hostMem
  memB      : Memory.wf s.portB.hostMem

/-- Every accounting item waits in one queue: the holder's, or the unheld queue while no port holds control (R175,
R177). -/
structure AccountingPlaced (s : State) : Prop where
  others : ∀ p, s.control.holder ≠ some p → ∀ it ∈ (s.port p).queue, it.isAccounting = false
  held   : s.control.holder ≠ none → s.unheld = []
  unheld : ∀ it ∈ s.unheld, it.isAccounting = true

/-- Each tag is in at most one of the tag map, the free list and the cool-down list, and the tag map holds a tag for a
slot exactly when it is that slot's reply tag (R7). -/
structure TagsPlaced (s : State) : Prop where
  canonical : Assoc.wf s.tags
  once      : (s.tags.map Prod.fst ++ s.tagFree ++ s.coolDown.map Prod.fst).Nodup
  agree     : ∀ tag slot, Assoc.get? tag s.tags = some slot ↔ (s.sub? slot).bind Subscriber.tag = some tag

/-- The store's counts of room agree with the records in use (R24). -/
structure StoreRoom (s : State) : Prop where
  canonical : Assoc.wf s.msgs
  places    : s.freePlaces + s.msgs.length = 4096
  blocks    : s.freeBlocks + (s.msgs.map fun e => e.2.blocks.length).sum = 8192

/-- A message's chain is the one its text has: ceil(length / 32) blocks, 32 characters to a block in order, and the unused
bytes of the last block 0 (R26). -/
def Message.chained (m : Message) : Prop :=
  m.length = m.text.length ∧ m.blocks = chainOf m.text

/-- How many report items naming a message wait in all three report queues (R175). -/
def State.itemsWaiting (s : State) (it : Item) : Nat :=
  s.unheld.count it + s.portA.queue.count it + s.portB.queue.count it

/-- The records, the two calendars, the subscriber queues and the report queues agree: the windows of a record are those
of its state (R28), a serial stands in the due list of a window exactly when its record's due window is that window (R33,
R34), in the expiry list of its expiry window and in its subscriber's queue exactly while it is not FINAL (R32, R37), in
each once; the final count of a slot is the number of its final records (R3); and a report is owed exactly while its item
waits, once (R41, R42). -/
structure StoreAgrees (s : State) : Prop where
  room       : StoreRoom s
  records    : ∀ k m, s.msg? k = some m → m.serial = k ∧ m.chained
  windows    : ∀ k m, s.msg? k = some m →
    (m.due.isSome = true ↔ m.state = .waiting ∨ m.state = .loaded ∨ m.state = .retryWait) ∧
    (m.deadline.isSome = true ↔ m.state = .sent)
  due        : ∀ w k, k ∈ calList w s.dueCal ↔ ∃ m, s.msg? k = some m ∧ m.due = some w
  dueOnce    : ∀ w, (calList w s.dueCal).Nodup
  expiry     : ∀ w k, k ∈ calList w s.expiryCal ↔ ∃ m, s.msg? k = some m ∧ m.state ≠ .final ∧ m.expiry = w
  expiryOnce : ∀ w, (calList w s.expiryCal).Nodup
  queues     : ∀ n k, (∃ sub, s.sub? n = some sub ∧ k ∈ sub.queue) ↔
    ∃ m, s.msg? k = some m ∧ m.state ≠ .final ∧ m.slot = n
  queueOnce  : ∀ n sub, s.sub? n = some sub → sub.queue.Nodup
  finals     : ∀ n, (s.slot n).finalCount = s.msgs.countP fun e => decide (e.2.state = .final ∧ e.2.slot = n)
  owed       : ∀ k m, s.msg? k = some m → (m.state = .final ↔ m.owesOutcome = true ∨ m.owesDelivery = true)
  outcomes   : ∀ k, s.itemsWaiting (.outcome k) = if (s.msg? k).any (·.owesOutcome) then 1 else 0
  deliveries : ∀ k, s.itemsWaiting (.delivery k) = if (s.msg? k).any (·.owesDelivery) then 1 else 0

/-- The held loads of every zone (R104): in the order of their windows, which are now, now + 1 and now + 2, so at most 3;
none for now once the declaration is made (R109), none for now + 2 while the build is still to be made (R82); at most one
in SENDING, and that in LINKED only (R108). -/
structure LoadsHeld (s : State) : Prop where
  rising   : ∀ z, (s.zone z).held.Pairwise fun a b => (a.window - s.now).toNat < (b.window - s.now).toNat
  ahead    : ∀ z, ∀ ld ∈ (s.zone z).held, (ld.window - s.now).toNat ≤ 2
  few      : ∀ z, (s.zone z).held.length ≤ 3
  declared : s.due.declaration = false → ∀ z, ∀ ld ∈ (s.zone z).held, ld.window ≠ s.now
  unbuilt  : s.due.build = true → ∀ z, ∀ ld ∈ (s.zone z).held, ld.window ≠ s.now + 2
  one      : ∀ z, (s.zone z).held.countP (fun ld => ld.xfer = .sending) ≤ 1
  linked   : ∀ z, ∀ ld ∈ (s.zone z).held, ld.xfer = .sending → (s.zone z).link = .linked

/-- The command is one of those that end a window (R71). -/
def endsWindow : Instr → Bool
  | .windowTimerExpiry _ => true
  | .strobe _ _ => true
  | .toleranceExpiry _ => true
  | _ => false

/-- The bytes in assembly after the lead mark fall short of a complete frame: the body length byte has not come, or it is
at most 251 and the body and check byte are not all there (R47). -/
def frameShort (buf : List Byte) : Prop :=
  buf.length < 3 ∨ ((buf.getD 2 0).toNat ≤ 251 ∧ buf.length < 4 + (buf.getD 2 0).toNat)

/-- The bounds of the lists and counts that a state table gives: 8 answers (R45), a frame in assembly (R47), 32
merge list entries (R120), 63 records of a page (R178), 16,384 walk positions (R171), the fault count (R188). -/
structure Bounded (s : State) : Prop where
  answers  : ∀ l, (s.line l).answers.length ≤ 8
  frames   : ∀ l, frameShort (s.line l).buffer
  sweep    : ∀ l, (s.line l).errorsSweep ≤ 255
  merge    : s.merge.length ≤ 32
  pages    : ∀ p pg, (s.port p).current = some pg → pg.written ≤ 63
  walk     : s.walk.position ≤ 16384
  faults   : ∀ p, (s.port p).faultCount ≤ 255

end Sys2Proof.Machine
end

