-- ==== Sys2Proof/WellFormed.lean ====
section
/-! DEFINITION. The well-formed commands: operands that the row's own event can carry. The meanings are total all the
same, and give an ill-formed command an effect only where its event's condition holds. -/

namespace Sys2Proof

/-- The operands are ones that the command's event can carry: a slip's text length is one byte (R57), a page list has 16
entries (R184), a visit visits a place (R191), a register write is none that has a row of its own (R182), the slots of an
examination exist (R1), a malformed slip has an unknown kind or operation (R185), an unknown answer kind is none of the
four (R103), and a body length overrun is over 251 (R47). -/
def Instr.wellFormed : Instr → Bool
  | .powerOnReset => true
  | .startUpWalkVisit places _ => decide (1 ≤ places)
  | .portReset _ _ => true
  | .scanRequest _ _ => true
  | .noticeClear _ _ _ => true
  | .noticeEnableWrite _ _ _ => true
  | .registerWrite _ r v _ => decide (r = .area ∨ (r = .scan ∧ v ≠ 1 ∧ v ≠ 0xA5))
  | .controlTry _ _ => true
  | .controlRelease _ _ => true
  | .controlForce _ _ => true
  | .controlPeer _ _ _ => true
  | .windowTimerExpiry _ => true
  | .strobe _ _ => true
  | .toleranceExpiry _ => true
  | .coolDownEnd _ => true
  | .lateEntryMove _ => true
  | .messageExpiry _ => true
  | .windowBuild _ => true
  | .loadDeclaration _ => true
  | .deadlineExamination order _ => order.all fun n => decide (n < 16384)
  | .mergeClose _ => true
  | .offerDeadline _ => true
  | .idleRelease _ => true
  | .lineSweepStart _ => true
  | .zoneSweepStart _ => true
  | .zoneProbe _ _ => true
  | .testLoadSend _ _ => true
  | .sealDelayExpiry _ _ => true
  | .headerRefresh _ _ => true
  | .replyFrameWindowDiscard _ _ => true
  | .scan _ _ => true
  | .scanEnd _ pages _ => decide (pages.length = 16)
  | .pageChoice _ pages _ => decide (pages.length = 16)
  | .journalRecordWrite _ _ => true
  | .periodWalkStep _ => true
  | .periodEnd _ => true
  | .submit _ _ r _ => decide (r.text.length ≤ 255)
  | .cancel _ _ _ _ => true
  | .query _ _ _ _ => true
  | .release _ _ _ _ => true
  | .subscriberAdd _ _ _ _ => true
  | .subscriberModify _ _ _ _ _ => true
  | .subscriberSuspend _ _ _ _ => true
  | .subscriberResume _ _ _ _ => true
  | .subscriberRemove _ _ _ _ => true
  | .subscriberRead _ _ _ _ => true
  | .tariffSet _ _ _ _ _ => true
  | .tariffRead _ _ _ _ => true
  | .credit _ _ _ _ _ => true
  | .setBand _ _ _ _ => true
  | .periodClose _ _ _ => true
  | .periodStatus _ _ _ => true
  | .lineOpen _ _ _ _ => true
  | .lineClose _ _ _ _ => true
  | .lineRead _ _ _ _ => true
  | .zoneInService _ _ _ _ => true
  | .zoneOutOfService _ _ _ _ => true
  | .zoneTest _ _ _ _ => true
  | .zoneQuery _ _ _ _ => true
  | .settingsSet _ _ _ _ => true
  | .settingsRead _ _ _ => true
  | .malformedSlip _ _ kind op _ => !Machine.knownSlip kind op
  | .lineSubmitFrame _ _ _ => true
  | .lineProbeFrame _ _ _ => true
  | .bodyLengthOverrun _ byte _ => decide (251 < byte.toNat)
  | .lineFramingFailure _ _ => true
  | .frameTimeout _ _ => true
  | .answerSent _ _ => true
  | .entryLineByteArrival _ _ _ => true
  | .ack _ _ _ => true
  | .gap _ _ _ => true
  | .register _ _ _ => true
  | .tagConfirm _ _ _ => true
  | .replyLinkFramingFailure _ _ => true
  | .replyLinkByteArrival _ _ _ => true
  | .loadOk _ _ _ => true
  | .loadBad _ _ _ => true
  | .loadAnswerTimeout _ _ => true
  | .probeOk _ _ _ => true
  | .probeTimeout _ _ => true
  | .echo _ _ _ => true
  | .echoTimeout _ _ => true
  | .answerAssemblyTimeout _ _ => true
  | .zoneLinkFramingFailure _ _ => true
  | .unknownAnswerKind _ byte _ => decide (Machine.answerLength byte = none)
  | .controllerAnswerByte _ _ _ => true

end Sys2Proof
end

