-- ==== Sys2Proof/Certificates/Slice0/Obligations.lean ====
section
/-! DEFINITION. The statements for the provers. `Completes c b s e` says that command `c` answers a next state that is
`e` but for the header writes that end its event (R184); `Answers c p ix b s e a` says the same of a slip taken in a
running scan, answered `a` in place. -/

open Sys2Proof Sys2Proof.Machine

/-! ### The step, power-on reset and the registers -/

/-- A step runs the command at the front of the queue on the state with the queue's rest. On an empty queue one
millisecond passes: that clause is the model's choice (log 3). -/
def Obligations.StepRunsFrontCommand : Prop :=
  (∀ (c : Instr) (rest : List Instr) (s : State), s.pending = c :: rest → step s = exec c { s with pending := rest }) ∧
  (∀ s : State, s.pending = [] → step s = .next { s with ms := s.ms + 1, clock.timer := s.clock.timer + 1 })

/-- POWER_ON_RESET completes and leaves the power-on values that the chapters give (R191); the waiting commands, the
millisecond count and the host memories are kept, which is the model's choice (log 23). START_UP_WALK_VISIT: a visit short
of the last place leaves the part STARTING; with the last of them the part becomes READY and READY (bit 9) is raised at both
ports (R191). How many places there are, and that a visit in a READY part changes nothing, is the model's choice (log 7,
log 1). -/
def Obligations.PowerOnAndStartUp : Prop :=
  (∀ s : State, ∃ t, exec .powerOnReset s = .next t ∧ t.part = .starting ∧ t.pending = s.pending ∧ t.ms = s.ms ∧
    t.now = 0 ∧ t.clock.timer = 0 ∧ t.clock.length = 1500 ∧ t.clock.state = .internal ∧ t.clock.strobesHeard = 0 ∧
    t.clock.early = 0 ∧ t.clock.fallbacks = 0 ∧
    t.slots = [] ∧ t.numbers = [] ∧ t.pagers = [] ∧ t.tags = [] ∧ t.tagFree = List.range' 1 4095 ∧ t.coolDown = [] ∧
    t.msgs = [] ∧ t.freePlaces = 4096 ∧ t.freeBlocks = 8192 ∧ t.dueCal = [] ∧ t.expiryCal = [] ∧ t.nextSerial = 1 ∧
    (∀ l, t.line l = Line.reset) ∧ (∀ z, t.zone z = Zone.reset) ∧ (∀ n, t.plan n = Plan.reset) ∧
    (∀ k, t.replyLink k = { rx := none, framesTaken := 0, badFrames := 0 }) ∧
    t.replyCounts = { strays := 0, duplicates := 0, earlyCloses := 0, reclaims := 0, noTag := 0 } ∧
    t.retryCounts = { attemptsOnAir := 0, missedReturns := 0, retries := 0, holds := 0, releases := 0, exhaustions := 0 } ∧
    t.deferrals = 0 ∧ t.promotions = 0 ∧
    t.settings = Settings.reset ∧ t.merge = [] ∧ t.offerWait = [] ∧ t.band = 0 ∧ t.globalPeriod = 0 ∧
    t.startUp = 0 ∧ t.walk.running = false ∧ t.walk.position = 0 ∧ t.walk.count = 0 ∧ t.unheld = [] ∧
    t.control = { holder := none, tryA := false, tryB := false, peerA := 0, peerB := 0 } ∧
    (∀ p, (t.port p).area = none ∧ (t.port p).areaReg = 0 ∧ (t.port p).notice = 0 ∧ (t.port p).enable = 0 ∧
      (t.port p).scan = none ∧ (t.port p).scanPos = 0 ∧ (t.port p).kept = [] ∧ (t.port p).queue = [] ∧
      (t.port p).gap = false ∧ (t.port p).dropped = 0 ∧ (t.port p).current = none ∧ (t.port p).stalled = false ∧
      (t.port p).rescan = false ∧ (t.port p).search = 0 ∧
      (t.port p).nextNumber = 0 ∧ (t.port p).nextPage = 0 ∧ (t.port p).faultWord = none ∧ (t.port p).faultCount = 0 ∧
      (t.port p).locked = false ∧ (t.port p).hostMem = (s.port p).hostMem)) ∧
  (∀ (places : Nat) (b : Bus) (s : State),
    (s.part = .starting → s.startUp + max 1 places < 28690 →
      Completes (.startUpWalkVisit places b) b s { s with startUp := s.startUp + max 1 places }) ∧
    (s.part = .starting → 28690 ≤ s.startUp + max 1 places →
      Completes (.startUpWalkVisit places b) b s
        { s with part := .ready, startUp := 28690,
                 portA := { s.portA with notice := s.portA.notice ||| 0x200#10 },
                 portB := { s.portB with notice := s.portB.notice ||| 0x200#10 } }) ∧
    (s.part = .ready → exec (.startUpWalkVisit places b) s = .next s))

/-- The state after power-on reset has every invariant below. -/
def Obligations.ResetHasInvariants : Prop :=
  Canonical State.reset ∧ AccountingPlaced State.reset ∧ TagsPlaced State.reset ∧ StoreRoom State.reset ∧
    StoreAgrees State.reset ∧ Bounded State.reset ∧ LoadsHeld State.reset

/-- Register writes (R182, R183, R188): AREA changes the register and not the area in use; SCAN ignores a value other than
1 and 0xA5; NOTICE clears the bits written 1, and with FAULT (bit 5) also the fault word, its count and its lock; NOTICE
ENABLE takes bits 0 to 9 of the value, and that the bits which section 11.9.1 does not name are dropped, there and in NOTICE and
CONTROL, is the model's choice (log 51); the interrupt line is asserted exactly while a pending bit is enabled. A write to a register that
has a command of its own acts as that command (log 22). SCAN_REQUEST and SCAN (R185): with an area in use a scan begins at
the scan position, or sets the rescan mark of the scan that runs; without an area no scan is taken. -/
def Obligations.RegistersAndScan : Prop :=
  (∀ (p : Port) (v : Word) (b : Bus) (s : State),
    Completes (.registerWrite p .area v b) b s (s.modPort p fun u => { u with areaReg := v }) ∧
    (v ≠ 1 → v ≠ 0xA5 → exec (.registerWrite p .scan v b) s = .next s) ∧
    (v.getLsbD 5 = false →
      Completes (.noticeClear p v b) b s
        (s.modPort p fun u => { u with notice := u.notice &&& ~~~(v.setWidth 10) })) ∧
    (v.getLsbD 5 = true →
      Completes (.noticeClear p v b) b s (s.modPort p fun u =>
        { u with notice := u.notice &&& ~~~(v.setWidth 10), faultWord := none, faultCount := 0, locked := false })) ∧
    Completes (.noticeEnableWrite p v b) b s (s.modPort p fun u => { u with enable := v.setWidth 10 }) ∧
    ((s.port p).interrupt = true ↔
      ∃ i : Nat, i < 10 ∧ (s.port p).notice.getLsbD i = true ∧ (s.port p).enable.getLsbD i = true) ∧
    exec (.registerWrite p .scan 1 b) s = exec (.scanRequest p b) s ∧
    exec (.registerWrite p .scan 0xA5 b) s = exec (.portReset p b) s ∧
    exec (.registerWrite p .notice v b) s = exec (.noticeClear p v b) s ∧
    exec (.registerWrite p .noticeEnable v b) s = exec (.noticeEnableWrite p v b) s ∧
    exec (.registerWrite p .control v b) s = exec (decodeControl p v b) s) ∧
  (∀ (p : Port) (b : Bus) (s : State),
    ((s.port p).area = none → Completes (.scanRequest p b) b s s) ∧
    ((s.port p).area.isSome = true → (s.port p).scan = none →
      Completes (.scanRequest p b) b s (s.modPort p fun u =>
        { u with scan := some { start := u.scanPos, examined := 0, lastTaken := none, answered := false } })) ∧
    ((s.port p).area.isSome = true → (s.port p).scan.isSome = true →
      Completes (.scanRequest p b) b s (s.modPort p fun u => { u with rescan := true })) ∧
    ((s.port p).scanDue = true → (s.port p).area = none →
      Completes (.scan p b) b s (s.modPort p fun u => { u with scanDue := false })) ∧
    ((s.port p).scanDue = true → (s.port p).area.isSome = true → (s.port p).scan = none →
      Completes (.scan p b) b s (s.modPort p fun u =>
        { u with scanDue := false,
                 scan := some { start := u.scanPos, examined := 0, lastTaken := none, answered := false } })) ∧
    ((s.port p).scanDue = true → (s.port p).area.isSome = true → (s.port p).scan.isSome = true →
      Completes (.scan p b) b s (s.modPort p fun u => { u with scanDue := false, rescan := true })))

/-! ### The control claim -/

/-- The CONTROL writes by the table of R187: TRY, RELEASE, FORCE and PEER, by the holder, with another holder, and with
none. What a move does is `MoveOfControl`. -/
def Obligations.ControlWrites : Prop :=
  ∀ (p : Port) (v : BitVec 16) (b : Bus) (s : State),
    (s.control.holder ≠ none →
      Completes (.controlTry p b) b s { s with control := s.control.setTry p true }) ∧
    (s.control.holder = none →
      Completes (.controlTry p b) b s
        (moveControl (some p) .tried { s with control := s.control.setTry p true })) ∧
    (s.control.holder = some p →
      Completes (.controlRelease p b) b s
        (moveControl (if s.control.tryFlag p.other then some p.other else none) .released
          { s with control := { s.control with tryA := false, tryB := false } })) ∧
    (s.control.holder ≠ some p →
      Completes (.controlRelease p b) b s { s with control := s.control.setTry p false }) ∧
    (s.control.holder = some p → Completes (.controlForce p b) b s s) ∧
    (s.control.holder ≠ some p →
      Completes (.controlForce p b) b s
        (moveControl (some p) .forced { s with control := { s.control with tryA := false, tryB := false } })) ∧
    Completes (.controlPeer p v b) b s
      ({ s with control := s.control.setPeer p.other v }.modPort p.other fun u =>
        { u with notice := u.notice ||| 0x010#10 })

/-- A move of control (R177, R187): the holder changes; every accounting item of the old holder's queue, or the whole
unheld queue, goes in its order to the tail of the new holder's queue or of the unheld queue; then CONTROL-MOVED is
emitted to each port whose backlog is below 64, and dropped and marked at another (R176); CONTROL (bit 3) is raised at
both; nothing else changes. -/
def Obligations.MoveOfControl : Prop :=
  ∀ (new : Option Port) (cause : MoveCause) (s : State), s.control.holder ≠ new →
    let old := s.control.holder
    let t := moveControl new cause s
    let taken := match old with
      | some q => (s.port q).queue.filter Item.isAccounting
      | none => s.unheld
    let kept := fun p : Port =>
      if old = some p then (s.port p).queue.filter fun it => !it.isAccounting else (s.port p).queue
    let moved := fun p : Port => if new = some p then kept p ++ taken else kept p
    let record := Item.controlMoved old new cause s.now
    t.control = { s.control with holder := new } ∧
    t.unheld = (if new = none then s.unheld ++ taken else if old = none then [] else s.unheld) ∧
    (∀ p, (t.port p).notice = (s.port p).notice ||| 0x008#10 ∧
      ((moved p).countP Item.isRecord < 64 →
        (t.port p).queue = moved p ++ [record] ∧ (t.port p).gap = (s.port p).gap ∧
          (t.port p).dropped = (s.port p).dropped) ∧
      (64 ≤ (moved p).countP Item.isRecord →
        (t.port p).queue = moved p ∧ (t.port p).gap = true ∧
          (t.port p).dropped = min 65535 ((s.port p).dropped + 1)) ∧
      { t.port p with notice := (s.port p).notice, queue := (s.port p).queue, gap := (s.port p).gap,
                      dropped := (s.port p).dropped } = s.port p) ∧
    { t with control := s.control, unheld := s.unheld, portA := s.portA, portB := s.portB } = s

/-- PORT_RESET (R190): a page that holds records is sealed into the old area; the scan stops and the kept answers go; the
journal forgets its page list; NOTICE, NOTICE ENABLE and the fault word are cleared; control is released, to the other
port where its try flag is set; the port's try flag and peer value are cleared; AREA is read into the area in use, and an
address not aligned on 64 KiB gives none and captures BAD-AREA. The journal number continues, and no other block of the
part changes. -/
def Obligations.PortResetState : Prop :=
  ∀ (p : Port) (b : Bus) (s : State), ∃ t, exec (.portReset p b) s = .next t ∧
    (∀ base pg, (s.port p).area = some base → base % 65536 = 0 → (s.port p).current = some pg → 1 ≤ pg.written →
      b.sealHeader = false → b.sealMark = false →
        (t.port p).nextPage = (s.port p).nextPage + 1 ∧
          memRead (base + 0x100 + 16 * pg.entry.val + 8) (t.port p).hostMem = some 3) ∧
    (t.port p).scan = none ∧ (t.port p).rescan = false ∧ (t.port p).kept = [] ∧ (t.port p).scanPos = 0 ∧
    (t.port p).current = none ∧ (t.port p).search = 0 ∧ (t.port p).stalled = false ∧ (t.port p).enable = 0 ∧
    t.control.holder =
      (if s.control.holder = some p then (if s.control.tryFlag p.other then some p.other else none)
       else s.control.holder) ∧
    t.control.tryFlag p = false ∧ t.control.peer p = 0 ∧ t.control.peer p.other = s.control.peer p.other ∧
    (t.port p).areaReg = (s.port p).areaReg ∧
    ((s.port p).areaReg = 0 → (t.port p).area = none) ∧
    ((s.port p).areaReg.toNat % 65536 ≠ 0 → (t.port p).area = none ∧
      (t.port p).faultWord = some { kind := .badArea, index := 0, number := (s.port p).nextNumber }) ∧
    ((s.port p).areaReg ≠ 0 → (s.port p).areaReg.toNat % 65536 = 0 →
      (t.port p).area = some (s.port p).areaReg.toNat) ∧
    ((s.port p).areaReg.toNat % 65536 = 0 → s.control.holder ≠ some p → b.headerA = false → b.headerB = false →
      (t.port p).notice = 0 ∧ (t.port p).faultWord = none ∧ (t.port p).faultCount = 0) ∧
    (t.port p).nextNumber = (s.port p).nextNumber ∧
    (s.control.holder ≠ some p →
      (t.port p).queue = (s.port p).queue ∧ t.unheld = s.unheld ∧ (t.port p.other).bare = (s.port p.other).bare) ∧
    (s.control.holder = some p → (∀ it ∈ (t.port p).queue, it.isAccounting = false)) ∧
    (s.control.holder = some p → s.control.tryFlag p.other = false →
      t.unheld = s.unheld ++ (s.port p).queue.filter Item.isAccounting) ∧
    { t with control := s.control, unheld := s.unheld, portA := s.portA, portB := s.portB } = s

/-! ### Invariants that every step keeps -/

/-- Every step keeps the canonical form of every collection held by key, the host memories among them. -/
def Obligations.CanonicalKept : Prop :=
  ∀ s t : State, Canonical s → step s = .next t → Canonical t

/-- Every step keeps every accounting item in the holder's queue, or in the unheld queue while no port holds control
(R175, R177). -/
def Obligations.AccountingPlacedKept : Prop :=
  ∀ s t : State, AccountingPlaced s → step s = .next t → AccountingPlaced t

/-- Every step keeps each tag in at most one of the tag map, the free list and the cool-down list, and the map in agreement
with the subscribers' reply tags (R7, R10). -/
def Obligations.TagsPlacedKept : Prop :=
  ∀ s t : State, TagsPlaced s → step s = .next t → TagsPlaced t

/-- Every step keeps the counts of free record places and text blocks in agreement with the records in use (R24, R25); and
it keeps the store in agreement with itself: a record's text in its chain of 32-byte blocks (R26), its windows with its state
(R28), the due calendar with the due windows (R33, R34), the expiry calendar and the queues with the records that are not
FINAL (R32, R37), the final counts (R3) and the reports owed with the report items that wait (R41, R42). -/
def Obligations.StoreRoomKept : Prop :=
  (∀ s t : State, StoreRoom s → step s = .next t → StoreRoom t) ∧
  (∀ s t : State, StoreAgrees s → step s = .next t → StoreAgrees t)

/-- Every step keeps the bounds of the lists and counts: 8 answers of a line (R51), a frame in assembly short of its
length (R47), the errors of a sweep, 32 merge list entries (R120), 63 records of a page (R179), the walk position (R172)
and the fault count (R188). Every step keeps the held loads of every zone in order, at most 3, at most one of them in
SENDING (R104), where no window ends before the declaration of the one that has started is made: that the sender of commands
keeps this order is the model's choice (log 2). -/
def Obligations.BoundedKept : Prop :=
  (∀ s t : State, Bounded s → step s = .next t → Bounded t) ∧
  (∀ s t : State, LoadsHeld s →
    (∀ c rest, s.pending = c :: rest → endsWindow c = true → s.due.declaration = false) →
    step s = .next t → LoadsHeld t)

/-- No event but a window end changes the window count, which then rises by one, and power-on reset, which sets it to 0
(R69, R71). A step writes at most one journal record of a port: the next journal number stays, rises by one, or power-on
reset sets it to 0 (R179, R190, R191). -/
def Obligations.CountsKept : Prop :=
  (∀ s t : State, step s = .next t →
    t.now = s.now ∨
    (t.now = s.now + 1 ∧ t.clock.timer = 0 ∧ ∃ c rest, s.pending = c :: rest ∧
      ((∃ b, c = .windowTimerExpiry b) ∨ (∃ x b, c = .strobe x b) ∨ (∃ b, c = .toleranceExpiry b))) ∨
    (t.now = 0 ∧ ∃ rest, s.pending = .powerOnReset :: rest)) ∧
  (∀ (p : Port) (s t : State), step s = .next t →
    (t.port p).nextNumber = (s.port p).nextNumber ∨ (t.port p).nextNumber = (s.port p).nextNumber + 1 ∨
    ((t.port p).nextNumber = 0 ∧ ∃ rest, s.pending = .powerOnReset :: rest))

/-- A message that is FINAL does not change until it is freed but for the reports it owes, and its record is freed only
where a journal record is written, by JOURNAL_RECORD_WRITE or at the end of a scan, or by power-on reset (R28, R42). -/
def Obligations.FinalMessageKept : Prop :=
  ∀ (serial : Nat) (m : Message) (s t : State), StoreAgrees s → s.msg? serial = some m → m.state = .final →
    step s = .next t →
      (∃ x y, t.msg? serial = some { m with owesOutcome := x, owesDelivery := y } ∧
        (x = true → m.owesOutcome = true) ∧ (y = true → m.owesDelivery = true)) ∨
      (t.msg? serial = none ∧ ∃ c rest, s.pending = c :: rest ∧
        (c = .powerOnReset ∨ (¬ (m.owesOutcome = true ∧ m.owesDelivery = true) ∧
          ((∃ p b, c = .journalRecordWrite p b) ∨ (∃ p pages b, c = .scanEnd p pages b)))))

/-! ### The window clock -/

/-- WINDOW_TIMER_EXPIRY, TOLERANCE_EXPIRY and STROBE by the clock state (R70, R73 to R76): the timer ends a window in
INTERNAL and FALLBACK, the tolerance (the first millisecond t with 4t at least 5 lengths) in STROBE; a strobe is counted,
and ends the window in STROBE and FALLBACK unless it is early (2t below the length). That an event of another clock state
changes nothing, and that an event carries the time to its moment, is the model's choice (log 1, log 4), and so is that a
strobe past the moment of the timer or the tolerance ends the window as a strobe (log 36). -/
def Obligations.ClockCommands : Prop :=
  ∀ (x : Nat) (b : Bus) (s : State),
    (s.clock.state ≠ .strobe →
      Completes (.windowTimerExpiry b) b s (windowStart .timer
        { s with ms := s.ms + (s.clock.length - s.clock.timer), clock.timer := max s.clock.timer s.clock.length })) ∧
    (s.clock.state = .strobe → exec (.windowTimerExpiry b) s = .next s) ∧
    (s.clock.state = .strobe → ∃ y, 5 * s.clock.length ≤ 4 * y ∧ 4 * y < 5 * s.clock.length + 4 ∧
      Completes (.toleranceExpiry b) b s (windowStart .tolerance
        { s with ms := s.ms + (y - s.clock.timer), clock.timer := max s.clock.timer y })) ∧
    (s.clock.state ≠ .strobe → exec (.toleranceExpiry b) s = .next s) ∧
    (s.clock.timer ≤ x →
      let h := { s with ms := s.ms + (x - s.clock.timer), clock.timer := x,
                        clock.strobesHeard := min 65535 (s.clock.strobesHeard + 1) }
      (s.clock.state = .internal → Completes (.strobe x b) b s h) ∧
      (s.clock.state ≠ .internal → x * 2 < s.clock.length →
        Completes (.strobe x b) b s { h with clock.early := min 65535 (s.clock.early + 1) }) ∧
      (s.clock.state ≠ .internal → s.clock.length ≤ x * 2 → Completes (.strobe x b) b s (windowStart .strobe h))) ∧
    exec (.strobe x b) s = exec (.strobe (max x s.clock.timer) b) s

/-- A window start (R71, R72, R77, R78): the clock state of the new window by the table of R77; the count rises by one, the
timer is 0, the length setting is copied, every reaction to a window start is due, those to a sweep start where the count is
a multiple of 96; a change of clock state raises CLOCK (bit 8) at both ports and offers both the record of the old and new
state, the cause and the new count, which is dropped and marked at a port whose backlog is 64 or more (R176); an unchanged one
writes nothing; nothing else changes. IN-SERVICE and ON-AIR of a clock's record are 0 by the model's choice (log 43). -/
def Obligations.WindowStart : Prop :=
  ((∀ e s, s.settings.clockSource = .internal → (windowStart e s).clock.state = .internal) ∧
  (∀ e s, s.settings.clockSource = .strobe → s.clock.state = .internal → (windowStart e s).clock.state = .strobe) ∧
  (∀ s, s.settings.clockSource = .strobe → s.clock.state = .strobe →
    (windowStart .strobe s).clock.state = .strobe ∧ (windowStart .tolerance s).clock.state = .fallback) ∧
  (∀ s, s.settings.clockSource = .strobe → s.clock.state = .fallback →
    (windowStart .strobe s).clock.state = .strobe ∧ (windowStart .timer s).clock.state = .fallback) ∧
  (∀ e s, (windowStart e s).clock.fallbacks =
    if s.settings.clockSource = .strobe ∧ s.clock.state = .strobe ∧ e = .tolerance then
      min 65535 (s.clock.fallbacks + 1) else s.clock.fallbacks)) ∧
  (∀ (e : WindowEnd) (s : State),
    let t := windowStart e s
    t.now = s.now + 1 ∧ t.clock.timer = 0 ∧ t.clock.length = s.settings.windowLength ∧
    t.clock.strobesHeard = s.clock.strobesHeard ∧ t.clock.early = s.clock.early ∧
    (t.now.toNat % 96 = 0 → t.due = Due.all) ∧
    (t.now.toNat % 96 ≠ 0 →
      t.due = { Due.all with idleRelease := s.due.idleRelease, lineSweep := s.due.lineSweep,
                             zoneSweep := s.due.zoneSweep }) ∧
    (t.clock.state = s.clock.state → ∀ p, (t.port p).notice = (s.port p).notice ∧ (t.port p).queue = (s.port p).queue ∧
      (t.port p).gap = (s.port p).gap ∧ (t.port p).dropped = (s.port p).dropped) ∧
    (t.clock.state ≠ s.clock.state → ∃ cause,
      cause = (if s.settings.clockSource = .internal ∨ s.clock.state = .internal then .sourceSetting
        else if t.clock.state = .fallback then .tolerance else .strobe) ∧
      ∀ p, (t.port p).notice = (s.port p).notice ||| 0x100#10 ∧
        ((s.port p).queue.countP Item.isRecord < 64 →
          (t.port p).queue = (s.port p).queue ++
            [.stateChange { source := .clock, old := s.clock.state.toNat, new := t.clock.state.toNat, cause := cause,
                            inService := false, onAir := false, window := t.now }] ∧
          (t.port p).gap = (s.port p).gap ∧ (t.port p).dropped = (s.port p).dropped) ∧
        (64 ≤ (s.port p).queue.countP Item.isRecord →
          (t.port p).queue = (s.port p).queue ∧ (t.port p).gap = true ∧
            (t.port p).dropped = min 65535 ((s.port p).dropped + 1))) ∧
    (∀ p, (t.port p).scanDue = true ∧ (t.port p).sealDue = true ∧ (t.port p).headerDue = true ∧
      { t.port p with
        scanDue := (s.port p).scanDue, sealDue := (s.port p).sealDue, headerDue := (s.port p).headerDue,
        notice := (s.port p).notice, queue := (s.port p).queue, gap := (s.port p).gap,
        dropped := (s.port p).dropped } = s.port p) ∧
    { t with clock := s.clock, due := s.due, portA := s.portA, portB := s.portB } = s)

/-- A STATE-CHANGE record and its notice (R176): the record goes into the queue of each port whose non-message backlog is
below 64; at 64 or more that port's copy is dropped, its dropped count rises by one (saturating at 65,535) and its gap mark
is set; the notice is raised at both ports in either case, and each port goes by its own count. -/
def Obligations.StateChangeRecords : Prop :=
  ∀ (r : StateChange) (n : Notice) (p : Port) (s : State),
    let t := stateChange r n s
    (t.port p).notice = (s.port p).notice ||| (1#10 <<< n.bit) ∧
    ((s.port p).queue.countP Item.isRecord < 64 →
      (t.port p).queue = (s.port p).queue ++ [.stateChange r] ∧ (t.port p).gap = (s.port p).gap ∧
        (t.port p).dropped = (s.port p).dropped) ∧
    (64 ≤ (s.port p).queue.countP Item.isRecord →
      (t.port p).queue = (s.port p).queue ∧ (t.port p).gap = true ∧
        (t.port p).dropped = min 65535 ((s.port p).dropped + 1)) ∧
    { t with portA := s.portA, portB := s.portB } = s

/-- Wake windows (R4): the first at or after `x` lies d windows on, d = (home - (x mod 96)) mod stride, where the stride is
96, 48, 24 or 12; the m-th adds m - 1 strides and lies at most 8 * 96 windows beyond `x`; all of it modulo 2^32, from the
schedule as it stands. -/
def Obligations.WakeWindows : Prop :=
  ∀ (sub : Subscriber) (x : Win) (m : Nat), sub.home ≤ 95 → 1 ≤ m → m ≤ 8 →
    ∃ d k : Nat, k = 96 / 2 ^ sub.wake.val ∧ d < k ∧
      ((d : Int) - ((sub.home : Int) - ((x.toNat % 96 : Nat) : Int))) % (k : Int) = 0 ∧
      sub.wakeAt x = x + BitVec.ofNat 32 d ∧
      nthWake sub.home sub.wake m x = x + BitVec.ofNat 32 (d + (m - 1) * k) ∧ d + (m - 1) * k ≤ 8 * 96 ∧
      sub.wakeAfter x = sub.wakeAt (x + 1)

/-! ### Reactions of the store, the tags and the reply unit -/

/-- COOL_DOWN_END (R10): the tags whose end window is present and not later than now move to the tail of the free list, in
the order of the cool-down list; the others stay. LINE_SWEEP_START and ZONE_SWEEP_START (R46, R50, R107): the errors this
sweep are 0 on every line and every zone, every QUIET line is OPEN, LINE (bit 6) is raised at both ports where a line was
QUIET, and nothing else of a line or zone changes. For each line that was QUIET a record QUIET to OPEN with cause SWEEP-START is
offered to both ports, in ascending order of the lines, which is the model's choice (log 38); those past a backlog of 64 are
dropped, counted and marked (R176). IN-SERVICE and ON-AIR of a line's record are 0 by the model's choice (log 43). -/
def Obligations.ListSweeps : Prop :=
  (∀ (b : Bus) (s : State), s.due.coolDown = true →
    let ended := fun e : Nat × Option Win => (e.2.map fun w => !winLater w s.now).getD false
    Completes (.coolDownEnd b) b s
      { s with due.coolDown := false, tagFree := s.tagFree ++ (s.coolDown.filter ended).map Prod.fst,
               coolDown := s.coolDown.filter fun e => !ended e }) ∧
  (∀ (b : Bus) (s : State),
    (s.due.lineSweep = true → ∃ t, exec (.lineSweepStart b) s = .next t ∧ t.due = { s.due with lineSweep := false } ∧
      (∀ l, t.line l = { s.line l with
        errorsSweep := 0, state := if (s.line l).state = .quiet then .opened else (s.line l).state }) ∧
      ((∃ l, (s.line l).state = .quiet) → ∀ p, (t.port p).notice.getLsbD 6 = true) ∧
      ((∀ l, (s.line l).state ≠ .quiet) → ∀ p, (t.port p).bare = (s.port p).bare) ∧
      (let records := (all8.filter fun l => (s.line l).state = .quiet).map fun l => Item.stateChange
         { source := .line l, old := 2, new := 1, cause := .sweepStart, inService := false, onAir := false,
           window := s.now }
       ∀ p, let room := 64 - (s.port p).queue.countP Item.isRecord
         (t.port p).queue = (s.port p).queue ++ records.take room ∧
         (t.port p).gap = ((s.port p).gap || decide (room < records.length)) ∧
         (t.port p).dropped =
           if records.length ≤ room then (s.port p).dropped
           else min 65535 ((s.port p).dropped + (records.length - room))) ∧
      { t.bare with lines := s.lines, due := s.due, portA := s.bare.portA, portB := s.bare.portB } = s.bare) ∧
    (s.due.zoneSweep = true →
      Completes (.zoneSweepStart b) b s
        { s with due.zoneSweep := false,
                 zones := Vector.ofFn fun z => { s.zones[z] with errorsSweep := 0 } }))

/-- LATE_ENTRY_MOVE (R35): each WAITING or RETRY-WAIT message in the list for now + 1 is re-dued, in list order, to its
subscriber's first wake window at or after now + 3; its record changes in nothing else, and every other record and list
stays. MESSAGE_EXPIRY (R38): every non-final message in the expiry list for now becomes FINAL EXPIRED, with its reports
owed; a FINAL one, and every message outside the list, stays as it is. That list order, and not R34's queue order, decides
where the two differ, is the model's choice (log 33). -/
def Obligations.StoreReactions : Prop :=
  (∀ (b : Bus) (s : State), s.due.lateEntry = true →
    let list := calList (s.now + 1) s.dueCal
    list.Nodup → (∀ serial ∈ list, ∀ m, s.msg? serial = some m → m.due = some (s.now + 1)) →
    let target := fun serial : Nat => (s.msg? serial).bind fun m =>
      if m.state = .waiting ∨ m.state = .retryWait then (s.sub? m.slot).map fun sub => sub.wakeAt (s.now + 3) else none
    ∃ t, exec (.lateEntryMove b) s = .next t ∧
      (∀ serial, serial ∉ list ∨ target serial = none → t.msg? serial = s.msg? serial) ∧
      (∀ serial ∈ list, ∀ w, target serial = some w →
        t.msg? serial = (s.msg? serial).map fun m => { m with due := some w }) ∧
      calList (s.now + 1) t.dueCal = list.filter (fun serial => (target serial).isNone) ∧
      (∀ w, w ≠ s.now + 1 →
        calList w t.dueCal = calList w s.dueCal ++ list.filter fun serial => decide (target serial = some w)) ∧
      { t.bare with msgs := s.msgs, dueCal := s.dueCal, due := s.due } = s.bare) ∧
  (∀ (b : Bus) (s : State), s.due.expiry = true →
    let list := calList s.now s.expiryCal
    ∃ t, exec (.messageExpiry b) s = .next t ∧ t.due = { s.due with expiry := false } ∧
      (∀ serial ∈ list, ∀ m, s.msg? serial = some m → m.state ≠ .final → ∃ f, t.msg? serial = some f ∧
        f.state = .final ∧ f.disposition = some .expired ∧ f.due = none ∧ f.deadline = none ∧ f.owesOutcome = true ∧
        f.finalWindow = some s.now ∧ f.charge.isSome = true ∧ f.serial = m.serial ∧ f.text = m.text) ∧
      (∀ serial ∈ list, ∀ m, s.msg? serial = some m → m.state = .final → t.msg? serial = some m) ∧
      (∀ serial, serial ∉ list → t.msg? serial = s.msg? serial) ∧
      t.clock = s.clock ∧ t.settings = s.settings ∧ t.lines = s.lines ∧ t.control = s.control ∧ t.tags = s.tags ∧
      t.freePlaces = s.freePlaces ∧ t.freeBlocks = s.freeBlocks)

/-- What makes a message FINAL does (R40, R41, R165): its serial leaves both calendars, its subscriber's queue and the loads
of its window that await transfer; it is rated, with the own rates or the plan's, its band, the surcharge of its class and its
extra zone-sends (R152 to R154), and posted: committed falls by its estimate and allowance by the allowance used, a prepaid
balance falls or a postpaid usage rises by the charge, each saturating, a ceiling reached makes the account CAPPED (R167), and
the period's charge, count and allowance rise; the slot's final count rises; the record gets its disposition, charge and owed
reports; OUTCOME goes to the holder's queue or the unheld queue, DELIVERY to an origin port that does not hold control; nothing
else changes. -/
def Obligations.MessageFinal : Prop :=
  ∀ (serial : Nat) (d : Disposition) (s : State) (m : Message) (sub : Subscriber),
    s.msg? serial = some m → m.state ≠ .final → s.sub? m.slot = some sub →
    let t := finalize serial d s
    let pl := s.plan sub.plan
    let i : RateInput :=
      { cells := m.cells, allowance := sub.account.allowance, base := if sub.override then sub.ownBase else pl.base,
        cell := if sub.override then sub.ownCell else pl.cell, band := pl.bands[m.band],
        surcharge := (match m.cls with
          | .urgent => pl.surcharges[0]
          | .high => pl.surcharges[1]
          | .normal => pl.surcharges[2]
          | .routine => pl.surcharges[3]),
        search := pl.search,
        extra := if sub.twoWay = false ∨ m.firstZones = 0 then 0 else min 255 (m.zoneSends - m.firstZones),
        transmitted := m.transmitted, delivered := decide (d = .delivered), undelivered := pl.undelivered, cap := pl.cap }
    let charge := chargeOf i
    let used := allowanceUsedOf i
    let usage := min 4294967295 (sub.account.usage + charge)
    let account := { sub.account with
      committed := sub.account.committed - m.estimate.getD 0, allowance := sub.account.allowance - used,
      balance := if pl.kind = .prepaid then max (-2147483648) (min 2147483647 (sub.account.balance - charge))
        else sub.account.balance,
      usage := if pl.kind = .postpaid then usage else sub.account.usage,
      postpaid := if pl.kind = .postpaid ∧ pl.ceiling ≠ 0 ∧ pl.ceiling ≤ usage then .capped else sub.account.postpaid,
      periodCharge := min 4294967295 (sub.account.periodCharge + charge),
      periodCount := min 65535 (sub.account.periodCount + 1),
      periodAllowance := min 4294967295 (sub.account.periodAllowance + used) }
    t.msg? serial = some
      { m with state := .final, disposition := some d, due := none, deadline := none, charge := some charge,
               allowanceUsed := some used, owesOutcome := true,
               owesDelivery := (match m.origin with
                 | .port p => decide (s.control.holder ≠ some p)
                 | .line _ => false),
               finalWindow := some s.now } ∧
    t.slot m.slot =
      { sub := some { sub with queue := sub.queue.filter (· != serial), account := account },
        finalCount := (s.slot m.slot).finalCount + 1 } ∧
    (∀ n, n ≠ m.slot → t.slot n = s.slot n) ∧ (∀ x, x ≠ serial → t.msg? x = s.msg? x) ∧
    (∀ w, calList w t.dueCal =
      if m.due = some w then (calList w s.dueCal).filter (· != serial) else calList w s.dueCal) ∧
    (∀ w, calList w t.expiryCal =
      if m.expiry = w then (calList w s.expiryCal).filter (· != serial) else calList w s.expiryCal) ∧
    (∀ z, t.zone z = { s.zone z with held := (s.zone z).held.map fun ld =>
      if m.state = .loaded ∧ m.due = some ld.window ∧ ld.xfer = .awaiting then
        { ld with items := ld.items.filter (fun it => !it.isMessage serial),
                  cells := ld.cells - ((ld.items.filter (LoadItem.isMessage serial)).map LoadItem.cells).sum }
      else ld }) ∧
    t.unheld = s.unheld ++ (if s.control.holder = none then [.outcome serial] else []) ∧
    (∀ p, t.port p = { s.port p with
      queue := (s.port p).queue ++ (if s.control.holder = some p then [.outcome serial] else []) ++
        (if m.origin = .port p ∧ s.control.holder ≠ some p then [.delivery serial] else []) }) ∧
    { t with msgs := s.msgs, slots := s.slots, dueCal := s.dueCal, expiryCal := s.expiryCal, zones := s.zones,
             unheld := s.unheld, portA := s.portA, portB := s.portB } = s

/-! ### Building windows (chapter 5) -/

/-- WINDOW_BUILD (R81 to R94, R104): each zone that is LINKED, ON-AIR and IN-SERVICE gets one load for W = now + 2 at the tail
of its held loads, whose cells are those of its items (2 to 50 a message, 3 a control item), and its last build values; every
other zone has its last build values made absent. A link without a probe or load in SENDING begins to send its oldest load not
yet started. In a load, withdraws by slot stand before offers by slot before messages. Messages outside the list for W do not
change. A WAITING or RETRY-WAIT one of it moves to the next wake window after W where its subscriber is SUSPENDED or no zone of
its set is available; is HELD or FINAL UNDELIVERABLE where its attempts are spent; else it becomes LOADED, an item of the load
of each zone of its set once and of no other, or, where a zone of its set could not take its cells, is deferred, moves and is in
no load. That attempts above the limit + 1 are spent like those equal to it is the model's choice (log 45). A pending
control item left unplaced for W - 1, or past, first moves to the first wake window at or after W (R84); one
due in W is then placed in the load of each available last-known zone (or service area zone) once, or, where there is none or one
already holds eight, moves to the next wake window after W; any other stays. The candidates are considered in the order that the
selection and the run give (R89), each placed exactly where its zones still take its cells, and stand in the loads in that order;
the deferrals total rises with every one not placed and the promotions total with every class raised (R91). -/
def Obligations.BuildHandsOver : Prop :=
  (∀ (b : Bus) (s : State), s.due.build = true →
    let shape := fun ld : Load => (ld.window, ld.items, ld.cells, ld.controls)
    ∃ t, exec (.windowBuild b) s = .next t ∧ t.due = { s.due with build := false } ∧
      (∀ z, (s.zone z).link = .linked → (s.zone z).onAir = true → (s.zone z).inService = true →
        ∃ items : List LoadItem,
          let cells := (items.map LoadItem.cells).sum
          let controls := items.countP fun it => match it with
            | .control _ _ _ _ => true
            | .message _ _ _ _ _ _ _ _ => false
          (t.zone z).held.map shape = (s.zone z).held.map shape ++ [(s.now + 2, items, cells, controls)] ∧
          (t.zone z).lastBuild = some (cells, items.length) ∧
          (LoadsHeld s →
            let held := (s.zone z).held ++ [{ window := s.now + 2, items := items, cells := cells, controls := controls,
                                              xfer := .awaiting, sends := 0 }]
            ((s.zone z).probeMs = none ∧ (∀ ld ∈ (s.zone z).held, ld.xfer ≠ .sending) →
              ∃ ld held', BeginsSend s.now held ld held' ∧ (t.zone z).held = held' ∧ (t.zone z).sendMs = s.ms ∧
                (t.zone z).lastFrame = loadFrame z ld) ∧
            ((s.zone z).probeMs.isSome = true ∨ (∃ ld ∈ (s.zone z).held, ld.xfer = .sending) →
              (t.zone z).held = held))) ∧
      (∀ z, ¬ ((s.zone z).link = .linked ∧ (s.zone z).onAir = true ∧ (s.zone z).inService = true) →
        t.zone z = { s.zone z with lastBuild := none }) ∧
      (∀ serial, serial ∉ calList (s.now + 2) s.dueCal → t.msg? serial = s.msg? serial) ∧
      t.clock = s.clock ∧ t.settings = s.settings ∧ t.tags = s.tags ∧ t.numbers = s.numbers ∧ t.control = s.control) ∧
  (∀ (b : Bus) (s : State), s.due.build = true → Canonical s → StoreAgrees s →
    let w := s.now + 2
    let up := fun z : Fin 8 => (s.zone z).link = .linked ∧ (s.zone z).onAir = true ∧ (s.zone z).inService = true
    let avail := availableZones s
    ∃ t, exec (.windowBuild b) s = .next t ∧ (∀ z : Fin 8, avail.getLsbD z.val = true ↔ up z) ∧
      (let load := fun (z : Fin 8) (ld : Load) => up z ∧ (t.zone z).held.getLast? = some ld
       let inLoads := fun (it : LoadItem) (f : LoadItem → Bool) (zs : ZoneSet) => ∀ z ld, load z ld →
         (zs.getLsbD z.val = true → it ∈ ld.items ∧ ld.items.countP f = 1) ∧
         (zs.getLsbD z.val = false → ld.items.countP f = 0)
       (∀ z ld, load z ld → ld.items.Pairwise fun x y => match x, y with
          | .control k n _ _, .control k' n' _ _ => (k = .withdraw ∧ k' = .offer) ∨ (k = k' ∧ n < n')
          | .control _ _ _ _, .message _ _ _ _ _ _ _ _ => True
          | .message _ _ _ _ _ _ _ _, .message _ _ _ _ _ _ _ _ => True
          | .message _ _ _ _ _ _ _ _, .control _ _ _ _ => False) ∧
       (∀ serial ∈ calList w s.dueCal, ∀ m sub, s.msg? serial = some m → s.sub? m.slot = some sub →
          let zs := attemptZones s.settings sub m.attempts &&& avail
          let spent := sub.twoWay = true ∧ (s.plan sub.plan).retryLimit + 1 ≤ m.attempts
          let moved := some (sub.wakeAt (w + 1))
          (m.state = .loaded → t.msg? serial = some m) ∧
          (m.state = .waiting ∨ m.state = .retryWait →
            (sub.state = .suspended → t.msg? serial = some { m with due := moved }) ∧
            (sub.state = .active → spent →
              ((s.plan sub.plan).hold = true → t.msg? serial = some { m with state := .held, due := none }) ∧
              ((s.plan sub.plan).hold = false →
                ∃ f, t.msg? serial = some f ∧ f.state = .final ∧ f.disposition = some .undeliverable)) ∧
            (sub.state = .active → ¬ spent → zs = 0 → t.msg? serial = some { m with due := moved }) ∧
            (sub.state = .active → ¬ spent → zs ≠ 0 →
              (t.msg? serial = some { m with state := .loaded, attemptZones := zs, sentZones := 0 } ∧
                inLoads (.message serial m.slot sub.pager m.seq m.cls m.kind m.text m.cells) (LoadItem.isMessage serial)
                  zs) ∨
              (t.msg? serial = some { deferMessage m with due := moved } ∧
                (∀ z ld, load z ld → ld.items.countP (LoadItem.isMessage serial) = 0) ∧
                ∃ z ld, load z ld ∧ zs.getLsbD z.val = true ∧ s.settings.capacity[z] < ld.cells + m.cells)))) ∧
       (∀ n x, s.sub? n = some x → ∃ y, t.sub? n = some y ∧
          { y with pending := x.pending, queue := x.queue, account := x.account } = x ∧
          (x.pending = none → y.pending = none) ∧
          (∀ pd, x.pending = some pd →
            let pd' := if (pd.due = w - 1 ∧ pd.placed = false) ∨ winLater s.now pd.due = true then
              { pd with due := x.wakeAt w, placed := false } else pd
            let target := x.lastKnown.getD x.area &&& avail
            let later := some { pd' with due := x.wakeAt (w + 1), placed := false }
            let mine := LoadItem.isControl pd.kind n pd.tag
            (pd'.due ≠ w → y.pending = some pd') ∧
            (pd'.due = w → target = 0 → y.pending = later) ∧
            (pd'.due = w → target ≠ 0 →
              (y.pending = some { pd' with placed := true } ∧ inLoads (.control pd.kind n x.pager pd.tag) mine target) ∨
              (y.pending = later ∧ (∀ z ld, load z ld → ld.items.countP mine = 0) ∧
                ∃ z ld, load z ld ∧ target.getLsbD z.val = true ∧ 8 ≤ ld.controls)))) ∧
       (∃ (cands : List Candidate) (order : List (Candidate × Bool)),
          (∀ c, c ∈ cands ↔ c.serial ∈ calList w s.dueCal ∧ ∃ m sub, s.msg? c.serial = some m ∧ s.sub? m.slot = some sub ∧
            (m.state = .waiting ∨ m.state = .retryWait) ∧ sub.state = .active ∧
            ¬ (sub.twoWay = true ∧ (s.plan sub.plan).retryLimit + 1 ≤ m.attempts) ∧
            c.zones = attemptZones s.settings sub m.attempts &&& avail ∧ c.zones ≠ 0 ∧ c.cls = m.cls ∧ c.cells = m.cells) ∧
          (cands.map Candidate.serial).Nodup ∧ Considered s.settings.grantLimit none cands order ∧
          (let carries := fun (z : Fin 8) (e : Candidate × Bool) => e.2 && e.1.zones.getLsbD z.val
           let total := fun n k : Nat => if k = 0 then n else min 65535 (n + k)
           (∀ pre c placed post, order = pre ++ (c, placed) :: post →
              (placed = true ↔ ∃ m, t.msg? c.serial = some m ∧ m.state = .loaded) ∧
              (placed = true ↔ ∀ z ld, load z ld → c.zones.getLsbD z.val = true →
                3 * ld.controls + ((pre.filter (carries z)).map fun e => e.1.cells).sum + c.cells ≤
                  s.settings.capacity[z])) ∧
           (∀ z ld, load z ld →
              (ld.items.filterMap fun it => match it with
                | .message serial _ _ _ _ _ _ _ => some serial
                | .control _ _ _ _ => none) = (order.filter (carries z)).map fun e => e.1.serial) ∧
           t.deferrals = total s.deferrals (order.countP fun e => !e.2) ∧
           t.promotions = total s.promotions (order.countP fun e => !e.2 &&
             (s.msg? e.1.serial).any fun m => decide ((deferMessage m).cls ≠ m.cls))))))

/-- A build keeps within the capacity limits (R88, R90): no load it hands over holds more cells than its zone's limit, or
more than eight control items. The settings keep every limit at 40 or more (R189). -/
def Obligations.BuildFitsCapacity : Prop :=
  ∀ (b : Bus) (s t : State) (z : Fin 8), s.due.build = true → 24 ≤ s.settings.capacity[z] →
    exec (.windowBuild b) s = .next t →
      (t.zone z).lastBuild ≠ none → ∃ ld, (t.zone z).held.getLast? = some ld ∧ ld.window = s.now + 2 ∧
        ld.cells ≤ s.settings.capacity[z] ∧ ld.controls ≤ 8

/-- The choices of a build. Selection (R89): with a run that has reached a grant limit other than 0 and a candidate of a
lower class left, the oldest candidate of the highest lower class, and the run becomes none; otherwise the oldest candidate
of the highest class, and the run stands. A placement counts on in a run of its class and begins one else. Deferral (R91): the deferrals rise by one, saturating at 255; at every multiple of
4 the class is raised one step, URGENT staying. The attempt zone set (R136, R137): the last-known zones, then those with
their neighbours within the service area, then the service area, which serves also where no zones are known and a one-way
subscriber. -/
def Obligations.BuilderChoices : Prop :=
  (∀ (grant : Nat) (run : Run) (cands : List Candidate),
    let turn := fun c : MsgClass => (∃ n, run = some (c, n) ∧ grant ≠ 0 ∧ grant ≤ n) ∧ ∃ d ∈ cands, c.toNat < d.cls.toNat
    let before := fun x y : Candidate => x.cls.toNat < y.cls.toNat ∨ (x.cls = y.cls ∧ x.serial ≤ y.serial)
    (∀ c, turn c → ∃ x ∈ cands, selectNext grant run cands = some (x, none) ∧ c.toNat < x.cls.toNat ∧
      ∀ d ∈ cands, c.toNat < d.cls.toNat → before x d) ∧
    ((∀ c, ¬ turn c) → cands ≠ [] → ∃ x ∈ cands, selectNext grant run cands = some (x, run) ∧ ∀ d ∈ cands, before x d) ∧
    (cands = [] → selectNext grant run cands = none) ∧
    (∀ c, Run.placed c run = some (c, match run with
      | some (c', n) => if c' = c then min 255 (n + 1) else 1
      | none => 1))) ∧
  (∀ m : Message,
    (deferMessage m).deferrals = min 255 (m.deferrals + 1) ∧
    (deferMessage m).cls.toNat =
      (if m.deferrals < 255 ∧ (m.deferrals + 1) % 4 = 0 then m.cls.toNat - 1 else m.cls.toNat) ∧
    { deferMessage m with deferrals := m.deferrals, cls := m.cls } = m) ∧
  (∀ (st : Settings) (sub : Subscriber) (attempts : Nat),
    (sub.twoWay = false → attemptZones st sub attempts = sub.area) ∧
    (sub.lastKnown = none → attemptZones st sub attempts = sub.area) ∧
    (2 ≤ attempts → attemptZones st sub attempts = sub.area) ∧
    (∀ known, sub.twoWay = true → sub.lastKnown = some known →
      attemptZones st sub 0 = known ∧
      ∀ y : Fin 8, (attemptZones st sub 1).getLsbD y.val = true ↔
        sub.area.getLsbD y.val = true ∧ (known.getLsbD y.val = true ∨
          ∃ z : Fin 8, known.getLsbD z.val = true ∧ (st.neighbours[z]).getLsbD y.val = true)))

/-! ### The declaration and the deadlines (chapters 6 and 8) -/

/-- LOAD_DECLARATION (R109, R110, R139 to R141): every held load for now leaves its zone, counted on air where it is
acknowledged and missed else, and a LINKED link with no load left in SENDING and no probe begins to send its next load (R104);
a LOADED message of the list for now with no load on air returns to WAITING with no attempt
counted; a two-way one on air counts an attempt and becomes SENT with a deadline of now + ack delay; a one-way one takes a
repeat, or becomes FINAL DELIVERED; a message on no load on air and outside the list does not change. -/
def Obligations.LoadDeclaration : Prop :=
  ∀ (b : Bus) (s : State), s.due.declaration = true →
    let list := calList s.now s.dueCal
    (∀ serial ∈ list, ∀ m, s.msg? serial = some m → m.due = some s.now) →
    let shape := fun ld : Load => (ld.window, ld.items, ld.cells, ld.controls)
    let carrying := fun serial : Nat => (onAirItems s.now s).filter fun e => e.2.isMessage serial
    let sent := fun (serial : Nat) (m : Message) =>
      (carrying serial).foldl (fun acc e => acc ||| (1#8 <<< e.1.val)) m.sentZones
    let counted := fun (serial : Nat) (m : Message) =>
      { m with zoneSends := min 255 (m.zoneSends + (carrying serial).length), sentZones := sent serial m,
               transmitted := true }
    ∃ t, exec (.loadDeclaration b) s = .next t ∧ t.due = { s.due with declaration := false } ∧
      (∀ z,
        let mine := (s.zone z).held.filter fun ld => ld.window = s.now
        let good := mine.countP fun ld => ld.xfer = .acknowledged
        (t.zone z).held.map shape = ((s.zone z).held.filter fun ld => ld.window ≠ s.now).map shape ∧
        (t.zone z).loadsOnAir = min 65535 ((s.zone z).loadsOnAir + good) ∧
        (t.zone z).loadsMissed = min 65535 ((s.zone z).loadsMissed + (mine.length - good)) ∧
        let others := (s.zone z).held.filter fun ld => ld.window ≠ s.now
        (others.map Load.window).Nodup →
        (∀ ld held', (s.zone z).link = .linked → (s.zone z).probeMs = none → (∀ x ∈ others, x.xfer ≠ .sending) →
          BeginsSend s.now others ld held' → (t.zone z).held = held' ∧ (t.zone z).sendMs = s.ms ∧
            (t.zone z).lastFrame = loadFrame z ld) ∧
        ((s.zone z).link ≠ .linked ∨ (s.zone z).probeMs.isSome = true ∨ (∃ x ∈ others, x.xfer = .sending) ∨
            (∀ x ∈ others, ¬ (x.xfer = .awaiting ∧ winLater x.window s.now = true)) →
          (t.zone z).held = others)) ∧
      (∀ serial ∈ list, ∀ m sub, s.msg? serial = some m → m.state = .loaded → s.sub? m.slot = some sub →
        (carrying serial = [] → m.sentZones = 0 →
          t.msg? serial = some { m with state := .waiting, due := some (sub.wakeAt (s.now + 2)) }) ∧
        (carrying serial ≠ [] → sub.twoWay = true →
          t.msg? serial = some { counted serial m with
            attempts := m.attempts + 1,
            firstZones := if m.round = 1 ∧ m.attempts = 0 then zoneCount (sent serial m) else m.firstZones,
            state := .sent, due := none, deadline := some (s.now + BitVec.ofNat 32 s.settings.ackDelay) }) ∧
        (carrying serial ≠ [] → sub.twoWay = false → 0 < m.repeats →
          t.msg? serial = some { counted serial m with
            repeats := m.repeats - 1, state := .waiting, due := some (sub.wakeAt (s.now + 2)), deadline := none }) ∧
        (carrying serial ≠ [] → sub.twoWay = false → m.repeats = 0 → ∃ f, t.msg? serial = some f ∧
          f.state = .final ∧ f.disposition = some .delivered ∧ f.transmitted = true)) ∧
      (∀ serial, serial ∉ list → carrying serial = [] → t.msg? serial = s.msg? serial)

/-- The control items on air of LOAD_DECLARATION (R128, R130): a current TAG-OFFER of an OFFERED tag is dropped and waits
for its confirmation until now + ack delay; a current TAG-WITHDRAW is dropped and its tag's cool-down entry ends at now +
ack delay + merge span. Stale ones (R131): with no current item of a slot on air, its tag fields, pending item and offer
wait entries stay; a stale TAG-WITHDRAW moves an earlier end window of its tag's cool-down entry to now + ack delay + merge
span; an entry with no withdraw on air, or with stale ones only and no earlier end window, stays. -/
def Obligations.ControlItemsOnAir : Prop :=
  (∀ (b : Bus) (s : State) (z : Fin 8) (n pager : Nat) (pd : Pending) (sub : Subscriber), s.due.declaration = true →
    s.sub? n = some sub → sub.pending = some pd → pd.due = s.now →
    (z, LoadItem.control pd.kind n pager pd.tag) ∈ onAirItems s.now s →
    ∃ t, exec (.loadDeclaration b) s = .next t ∧
      (pd.kind = .offer → sub.tagState = .offered → sub.tag = some pd.tag →
        (∃ x, t.sub? n = some x ∧ x.pending = none ∧ x.tag = some pd.tag ∧ x.tagState = .offered) ∧
        { slot := n, tag := pd.tag, deadline := s.now + BitVec.ofNat 32 s.settings.ackDelay } ∈ t.offerWait) ∧
      (pd.kind = .withdraw →
        (∃ x, t.sub? n = some x ∧ x.pending = none) ∧
        ∀ x, (pd.tag, x) ∈ s.coolDown →
          (pd.tag, some (s.now + BitVec.ofNat 32 s.settings.ackDelay + BitVec.ofNat 32 s.settings.mergeSpan)) ∈
            t.coolDown)) ∧
  (∀ (b : Bus) (s : State), s.due.declaration = true →
    let items := onAirItems s.now s
    let coolEnd := s.now + BitVec.ofNat 32 s.settings.ackDelay + BitVec.ofNat 32 s.settings.mergeSpan
    let current := fun (kd : ControlKind) (n tag : Nat) => ∃ sub pd, s.sub? n = some sub ∧ sub.pending = some pd ∧
      pd.kind = kd ∧ pd.tag = tag ∧ pd.due = s.now
    let fields := fun x : Subscriber => (x.tag, x.tagState, x.offers, x.pending, x.lastKnown, x.lastReply)
    ∃ t, exec (.loadDeclaration b) s = .next t ∧ t.tags = s.tags ∧ t.tagFree = s.tagFree ∧
      t.coolDown.map Prod.fst = s.coolDown.map Prod.fst ∧
      (∀ n, (∀ z kd pager tag, (z, LoadItem.control kd n pager tag) ∈ items → ¬ current kd n tag) →
        (t.sub? n).map fields = (s.sub? n).map fields ∧
        (t.offerWait.filter fun e => e.slot = n) = s.offerWait.filter fun e => e.slot = n) ∧
      (∀ z n pager tag, (z, LoadItem.control .withdraw n pager tag) ∈ items → ¬ current .withdraw n tag →
        ∀ x, (tag, some x) ∈ s.coolDown → winLater coolEnd x = true → (tag, some coolEnd) ∈ t.coolDown) ∧
      (∀ e ∈ s.coolDown,
        (∀ z n pager, (z, LoadItem.control .withdraw n pager e.1) ∈ items →
          ¬ current .withdraw n e.1 ∧ ∀ x, e.2 = some x → winLater coolEnd x = false) → e ∈ t.coolDown))

/-- DEADLINE_EXAMINATION (R142, R143): a SENT message of a subscriber's queue whose deadline is earlier than now is given a
further attempt with backoff 1, 2, 4 or 8 wake windows on, or is exhausted at retry limit + 1 attempts (HELD where the plan
holds, else FINAL UNDELIVERABLE), or, one-way, takes a repeat or is FINAL DELIVERED; every other message stays. The order
between subscribers, which the manual leaves open (log 8), does not matter here; that attempts above the limit + 1 are exhausted
like those equal to it is the model's choice (log 45). -/
def Obligations.DeadlineExamination : Prop :=
  ∀ (order : List Nat) (b : Bus) (s : State), s.due.deadline = true →
    ∃ t, exec (.deadlineExamination order b) s = .next t ∧ t.due = { s.due with deadline := false } ∧
      (∀ serial m sub w, s.msg? serial = some m → s.sub? m.slot = some sub → serial ∈ sub.queue → m.state = .sent →
        m.deadline = some w → winLater s.now w = true →
        let limit := (s.plan sub.plan).retryLimit
        let k := min 7 (m.backoff + 1)
        (sub.twoWay = true → m.attempts < limit + 1 →
          t.msg? serial = some { m with
            state := .retryWait, deadline := none, backoff := k,
            due := some (nthWake sub.home sub.wake (if k ≤ 1 then 1 else if k = 2 then 2 else if k = 3 then 4 else 8)
              (s.now + 2)) }) ∧
        (sub.twoWay = true → limit + 1 ≤ m.attempts → (s.plan sub.plan).hold = true →
          t.msg? serial = some { m with state := .held, deadline := none, due := none }) ∧
        (sub.twoWay = true → limit + 1 ≤ m.attempts → (s.plan sub.plan).hold = false → ∃ f, t.msg? serial = some f ∧
          f.state = .final ∧ f.disposition = some .undeliverable) ∧
        (sub.twoWay = false → 0 < m.repeats →
          t.msg? serial = some { m with
            repeats := m.repeats - 1, state := .waiting, deadline := none, due := some (sub.wakeAt (s.now + 2)) }) ∧
        (sub.twoWay = false → m.repeats = 0 → ∃ f, t.msg? serial = some f ∧
          f.state = .final ∧ f.disposition = some .delivered)) ∧
      (∀ serial m, s.msg? serial = some m → m.overdue s.now = false → t.msg? serial = some m) ∧
      t.clock = s.clock ∧ t.settings = s.settings ∧ t.tags = s.tags ∧ t.control = s.control ∧ t.lines = s.lines

/-! ### Reactions of the reply unit (chapter 7) -/

/-- MERGE_CLOSE (R121): every entry for which now - first-heard has reached the merge span is closed and removed. Those of
one slot close in list order, each where the slot holds a two-way subscriber with the entry's pager number: the sites heard
become its last-known zones within its service area (unchanged where that is empty), so that the last non-empty set stands, and
the last reply window is the later of the two; a slot none of whose entries closes does not change. -/
def Obligations.MergeClose : Prop :=
  ∀ (b : Bus) (s : State), s.due.mergeClose = true →
    let spent := fun e : MergeEntry => decide (s.settings.mergeSpan ≤ (s.now - e.first).toNat)
    let closing := fun n : Nat => s.merge.filter fun e => spent e && decide (e.slot = n)
    let zones := fun (sub : Subscriber) (e : MergeEntry) => zonesOfSites s.settings e.sites &&& sub.area
    let close := fun (sub : Subscriber) (e : MergeEntry) =>
      if sub.twoWay = true ∧ sub.pager = e.pager then
        { sub with lastKnown := if zones sub e = 0 then sub.lastKnown else some (zones sub e),
                   lastReply := match sub.lastReply with
                     | some w => some (if winLater w e.first then w else e.first)
                     | none => some e.first }
      else sub
    ∃ t, exec (.mergeClose b) s = .next t ∧ t.due = { s.due with mergeClose := false } ∧
      t.merge = (s.merge.filter fun e => !spent e) ∧
      (∀ n, closing n = [] ∨ s.sub? n = none → t.slot n = s.slot n) ∧
      (∀ n sub, s.sub? n = some sub → t.sub? n = some ((closing n).foldl close sub) ∧
        (∀ older e newer, closing n = older ++ e :: newer → sub.twoWay = true → sub.pager = e.pager → zones sub e ≠ 0 →
          (∀ x ∈ newer, sub.pager = x.pager → zones sub x = 0) →
          (t.sub? n).map Subscriber.lastKnown = some (some (zones sub e)))) ∧
      { t.bare with slots := s.slots, merge := s.merge, due := s.due } = s.bare

/-- OFFER_DEADLINE (R129): an entry whose deadline is earlier than now is re-offered (due at the first wake window at or
after now + 2) while fewer than two re-offers have been made; at two, without a message LOADED or SENT, the tag is released
to cool-down (R8), and with one the entry stays; an entry whose deadline is not passed stays. -/
def Obligations.OfferDeadline : Prop :=
  ∀ (b : Bus) (s : State), s.due.offerDeadline = true → (s.offerWait.map OfferWait.slot).Nodup →
    ∃ t, exec (.offerDeadline b) s = .next t ∧ t.due = { s.due with offerDeadline := false } ∧
      (∀ e ∈ s.offerWait, winLater s.now e.deadline = false → e ∈ t.offerWait ∧ t.sub? e.slot = s.sub? e.slot) ∧
      (∀ e ∈ s.offerWait, ∀ sub, winLater s.now e.deadline = true → s.sub? e.slot = some sub →
        (sub.offers < 2 → e ∉ t.offerWait ∧ t.sub? e.slot = some { sub with
          offers := sub.offers + 1,
          pending := some { kind := .offer, tag := e.tag, due := sub.wakeAt (s.now + 2), placed := false } }) ∧
        (2 ≤ sub.offers → s.inFlight e.slot = true → e ∈ t.offerWait ∧ t.sub? e.slot = some sub) ∧
        (2 ≤ sub.offers → s.inFlight e.slot = false → ∀ tag, sub.tag = some tag →
          e ∉ t.offerWait ∧ Assoc.get? tag t.tags = none ∧
          (tag, some (s.now + BitVec.ofNat 32 s.settings.ackDelay + BitVec.ofNat 32 s.settings.mergeSpan)) ∈ t.coolDown ∧
          ∃ x, t.sub? e.slot = some x ∧ x.tag = none ∧ x.tagState = .none ∧ x.offers = 0)) ∧
      t.msgs = s.msgs ∧ t.clock = s.clock ∧ t.control = s.control

/-- IDLE_RELEASE (R132, R126 steps 1 to 3): the tag of each CONFIRMED holder whose last reply is earlier than now - 96 *
tag idle, with no message LOADED or SENT, is withdrawn: it enters cool-down with no end window and a TAG-WITHDRAW is
pending; every other holder keeps its tag, and reclaims does not rise. -/
def Obligations.IdleRelease : Prop :=
  ∀ (b : Bus) (s : State), s.due.idleRelease = true → TagsPlaced s →
    let idle := fun e : Nat × Nat => match s.sub? e.2 with
      | none => false
      | some sub => decide (sub.tagState = .confirmed) && !s.inFlight e.2 && (match sub.lastReply with
        | some w => winLater (s.now - BitVec.ofNat 32 (s.settings.tagIdle * 96)) w
        | none => false)
    ∃ t, exec (.idleRelease b) s = .next t ∧
      t.tags = (s.tags.filter fun e => !idle e) ∧ t.tagFree = s.tagFree ∧
      t.coolDown = s.coolDown ++ ((s.tags.filter idle).map fun e => (e.1, none)) ∧
      (∀ e ∈ s.tags, idle e = true → ∀ sub, s.sub? e.2 = some sub → t.sub? e.2 = some { sub with
        tag := none, tagState := .none, offers := 0,
        pending := some { kind := .withdraw, tag := e.1, due := sub.wakeAt (s.now + 2), placed := false } }) ∧
      (∀ n, (∀ e ∈ s.tags, e.2 = n → idle e = false) → t.slot n = s.slot n) ∧
      { t.bare with slots := s.slots, tags := s.tags, coolDown := s.coolDown, due := s.due } =
        { s.bare with due := s.due } ∧ t.due = { s.due with idleRelease := false }

/-! ### Sweep starts, probes and the pattern test -/

/-- ZONE_PROBE (R101, R102): in SYNC and DOWN, and in LINKED while the controller is OFF-AIR and no transfer is in progress,
the probe frame is sent and awaits its answer; no other link sends one. TEST_LOAD_SEND (R113): in TEST one test load of 128
pattern bytes is sent, named by the window now, and its echo is awaited; no other link sends one. The pattern register gives
out stage 9 and shifts every stage up by one, stage 1 taking the exclusive or of stages 5 and 9; a pattern byte takes the
first output as its most significant bit. The counts 0 in these frames' headers are the model's choice (log 17). -/
def Obligations.WindowStartSends : Prop :=
  (∀ (z : Fin 8) (b : Bus) (s : State), s.due.probe.getLsbD z.val = true →
    let zn := s.zone z
    let d := { s with due.probe := s.due.probe &&& ~~~(1#8 <<< z.val) }
    let sends := zn.link = .sync ∨ zn.link = .down ∨
      (zn.link = .linked ∧ zn.onAir = false ∧ ∀ ld ∈ zn.held, ld.xfer ≠ .sending)
    let body := [3, BitVec.ofNat 8 z.val] ++ beBytes 4 s.now.toNat ++ [0, 0]
    (sends → Completes (.zoneProbe z b) b s
      (d.modZone z fun x => { x with probeMs := some s.ms, lastFrame := body ++ crc16Bytes body })) ∧
    (¬ sends → exec (.zoneProbe z b) s = .next d)) ∧
  (∀ (z : Fin 8) (b : Bus) (s : State), s.due.testLoad.getLsbD z.val = true →
    let d := { s with due.testLoad := s.due.testLoad &&& ~~~(1#8 <<< z.val) }
    ((s.zone z).link = .test → ∃ body next, patternBytes 128 (s.zone z).pattern = (body, next) ∧ body.length = 128 ∧
      let head := [2, BitVec.ofNat 8 z.val] ++ beBytes 4 s.now.toNat ++ [0, 0] ++ body
      Completes (.testLoadSend z b) b s (d.modZone z fun x => { x with
        pattern := next, testLoads := min 65535 (x.testLoads + 1),
        echo := some { window := s.now, body := body, sentMs := s.ms }, lastFrame := head ++ crc16Bytes head })) ∧
    ((s.zone z).link ≠ .test → exec (.testLoadSend z b) s = .next d)) ∧
  (∀ r : BitVec 9,
    (patternStep r).1 = r.getLsbD 8 ∧
    (∀ i : Nat, i < 8 → (patternStep r).2.getLsbD (i + 1) = r.getLsbD i) ∧
    (patternStep r).2.getLsbD 0 = (r.getLsbD 4 ^^ r.getLsbD 8) ∧
    (∀ i : Nat, i < 8 → (patternBits 8 r 0).1.getLsbD i = r.getLsbD (i + 1)))

/-! ### The journal, the header and the scan's end (chapters 10 and 11) -/

/-- SEAL_DELAY_EXPIRY (R180): a page that holds a record and has been FILLING for the seal delay is sealed: its header is
written at its address, its mark is SEALED (3), PAGE (bit 1) is raised, the page sequence rises by one and the search entry
is the next one, wrapping after 15; where a write meets a bus error the seal is owed and AREA-WRITE-ERROR is captured with
the entry; a page not yet due stays FILLING. -/
def Obligations.SealDelayExpiry : Prop :=
  ∀ (p : Port) (b : Bus) (s : State) (base : Nat) (pg : Page), (s.port p).sealDue = true →
    (s.port p).area = some base → (s.port p).current = some pg → pg.sealOwed = false →
    (pg.address + 2048 ≤ base ∨ base + 0x10000 ≤ pg.address) →
    let elapsed := 1 ≤ pg.written ∧ s.settings.sealDelay ≤ (s.now - pg.since).toNat
    (elapsed → b.sealHeader = false → b.sealMark = false →
      ∃ t, exec (.sealDelayExpiry p b) s = .next t ∧ (t.port p).current = none ∧
        (t.port p).search.val = (pg.entry.val + 1) % 16 ∧ (t.port p).nextPage = (s.port p).nextPage + 1 ∧
        (t.port p).notice.getLsbD 1 = true ∧ (t.port p).nextNumber = (s.port p).nextNumber ∧
        memRead (base + 0x100 + 16 * pg.entry.val + 8) (t.port p).hostMem = some 3 ∧
        (∀ i, i < 32 → memRead (pg.address + i) (t.port p).hostMem =
          (leBytes 4 (s.port p).nextPage.toNat ++ leBytes 4 pg.first.toNat ++
            [BitVec.ofNat 8 pg.written, BitVec.ofNat 8 (Port.toNat p)] ++ List.replicate 22 0)[i]?)) ∧
    (elapsed → (b.sealHeader = true ∨ b.sealMark = true) →
      ∃ t, exec (.sealDelayExpiry p b) s = .next t ∧ (t.port p).current = some { pg with sealOwed := true } ∧
        (t.port p).nextPage = (s.port p).nextPage ∧
        ((s.port p).locked = false → (t.port p).faultWord =
          some { kind := .areaWrite, index := pg.entry.val, number := (s.port p).nextNumber })) ∧
    (¬ elapsed → exec (.sealDelayExpiry p b) s = .next (s.modPort p fun u => { u with sealDue := false }))

/-- PAGE_CHOICE (R178, R181): the entries are searched from the search entry, wrapping after 15; the first that is not
UNUSED decides: a FREE one with a non-zero address aligned on 2 KiB becomes the current page, marked FILLING (2); a FREE one
with another address captures BAD-PAGE and stalls; a FILLING or SEALED one stalls; with every entry UNUSED, or no area, the
port stalls. A bus error on the read of an entry captures AREA-READ-ERROR, and one on the write of the mark AREA-WRITE-ERROR,
each with the entry, and the port stalls. That the head item is written in an event of its own after the choice, and that the
choice ends the debt of a failed record write, is the model's reading (log 27); that a failed access writes nothing is its
choice (log 5). -/
def Obligations.PageChoice : Prop :=
  ∀ (p : Port) (pages : PageList) (b : Bus) (s : State),
    (s.port p).queue ≠ [] → (s.port p).current = none → (s.port p).stalled = false →
    let stallOf := fun e : State => e.modPort p fun u => { u with stalled := true, notice := u.notice ||| 0x004#10 }
    let entry := fun k : Nat => ((s.port p).search.val + k) % 16
    let unusedBefore := fun k : Nat => ∀ j < k, ∃ e, pages.getD (entry j) none = some e ∧ e.mark = 0
    ((s.port p).area = none → Completes (.pageChoice p pages b) b s (stallOf s)) ∧
    (∀ base, (s.port p).area = some base →
      (unusedBefore 16 → Completes (.pageChoice p pages b) b s (stallOf s)) ∧
      (∀ k, k < 16 → unusedBefore k → pages.getD (entry k) none = none →
        Completes (.pageChoice p pages b) b s (stallOf (capture p .areaRead (entry k) s))) ∧
      (∀ k e, k < 16 → unusedBefore k → pages.getD (entry k) none = some e →
        (e.mark = 2 ∨ e.mark = 3 → Completes (.pageChoice p pages b) b s (stallOf s)) ∧
        (e.mark = 1 → (e.address = 0 ∨ e.address.toNat % 2048 ≠ 0) →
          Completes (.pageChoice p pages b) b s (stallOf (capture p .badPage (entry k) s))) ∧
        (e.mark = 1 → e.address ≠ 0 → e.address.toNat % 2048 = 0 →
          (b.filling = true → Completes (.pageChoice p pages b) b s (stallOf (capture p .areaWrite (entry k) s))) ∧
          (b.filling = false → Completes (.pageChoice p pages b) b s (s.modPort p fun u => { u with
            current := some { entry := ⟨entry k, Nat.mod_lt _ (by decide)⟩, address := e.address.toNat, written := 0,
                              first := 0, since := s.now, sealOwed := false },
            stalled := false, recordOwed := false,
            hostMem := memWrite (base + 0x100 + 16 * entry k + 8) [2] u.hostMem })))))

/-- JOURNAL_RECORD_WRITE (R179, R180): the head item's record of 32 bytes is written into the next place of the current
page, byte for byte as section 11.9.5 gives it for its kind, LOST being the gap mark, which is cleared; the item leaves the
queue and the journal number rises by one; with the 63rd record the page is sealed: its header is written, its mark becomes
SEALED (3), and no page is current. No byte but those of the record, of a page header and mark then written, and of the
headers of the areas changes. On a bus error the item stays, no byte outside the headers changes, the write is owed and
AREA-WRITE-ERROR is captured; that a failed access writes nothing is the model's choice (log 5), and so is that the bits no field names in
a field's byte are 0 (log 52); the page entry as the fault's index and the owed mark are its reading (log 27). -/
def Obligations.JournalRecordWrite : Prop :=
  ∀ (p : Port) (b : Bus) (s : State) (base : Nat) (pg : Page) (it : Item) (rest : List Item),
    (s.port p).area = some base → (s.port p).current = some pg → (s.port p).queue = it :: rest →
    (s.port p).recordOwed = false → pg.sealOwed = false → pg.written < 63 →
    (pg.address + 2048 ≤ base ∨ base + 0x10000 ≤ pg.address) →
    let number := (s.port p).nextNumber
    let lost := if (s.port p).gap then 8 else 0
    let place := pg.address + 32 + 32 * pg.written
    let mark := base + 0x100 + 16 * pg.entry.val + 8
    let u1 := fun x : Nat => [BitVec.ofNat 8 x]
    let stays := fun (t : State) (f : Nat → Prop) => ∀ a, ¬ headerByte (some base) a → ¬ f a →
      memRead a (t.port p).hostMem = memRead a (s.port p).hostMem
    let otherStays := fun t : State => ∀ a, ¬ headerByte (s.port p.other).area a →
      memRead a (t.port p.other).hostMem = memRead a (s.port p.other).hostMem
    let message := fun (kind charge : Nat) (m : Message) =>
      u1 number.toNat ++
        u1 (kind + lost + 16 * (m.disposition.map Disposition.toNat).getD 0 + (if m.transmitted then 128 else 0)) ++
        leBytes 4 m.serial ++ leBytes 2 m.slot ++ leBytes 4 m.clientRef.toNat ++
        u1 (match m.origin with
          | .port .A => 0
          | .port .B => 1
          | .line l => 2 + l.val) ++
        u1 (m.cls.toNat + 4 * m.origCls.toNat + 16 * (m.round - 1)) ++ u1 (m.attempts % 16 + 16 * m.kind.toNat) ++
        u1 m.seq ++ u1 m.zoneSends ++ u1 (m.allowanceUsed.getD 0) ++ u1 m.cells ++ u1 m.deferrals ++ leBytes 4 charge ++
        leBytes 4 m.accepted.toNat ++ leBytes 4 (m.finalWindow.getD 0).toNat
    (b.record = false → ∃ t, exec (.journalRecordWrite p b) s = .next t ∧
      (t.port p).queue = rest ∧ (t.port p).gap = false ∧ (t.port p).nextNumber = number + 1 ∧
      (let holds := fun bytes : List Byte => ∀ i, i < 32 → memRead (place + i) (t.port p).hostMem = bytes[i]?
       match it with
       | .outcome serial => ∀ m, s.msg? serial = some m → holds (message 0 (m.charge.getD 0) m)
       | .delivery serial => ∀ m, s.msg? serial = some m → holds (message 1 0 m)
       | .periodTotal r => holds (
          leBytes 16 (number.toNat % 2 ^ 8 + 2 * 2 ^ 8 + lost * 2 ^ 8 + (if r.postpaid = .capped then 2 ^ 12 else 0) +
            r.slot % 2 ^ 14 * 2 ^ 13 + r.number % 2 ^ 27 * 2 ^ 27 + r.period.toNat * 2 ^ 54 +
            r.committed % 2 ^ 30 * 2 ^ 62 + r.allowance % 2 ^ 20 * 2 ^ 92 + r.periodCount % 2 ^ 16 * 2 ^ 112) ++
          leBytes 4 (r.balance % 2 ^ 32).toNat ++ leBytes 4 r.usage ++ leBytes 4 r.periodCharge ++
          leBytes 4 r.periodAllowance)
       | .periodEnd period count w => holds (
          u1 number.toNat ++ u1 (3 + lost) ++ [period, 0] ++ leBytes 4 count ++ leBytes 4 w.toNat ++ List.replicate 20 0)
       | .stateChange r => holds (
          (match r.source with
            | .line l => u1 number.toNat ++ u1 (4 + lost) ++ u1 l.val
            | .zone z => u1 number.toNat ++ u1 (4 + lost + 16) ++ u1 z.val
            | .clock => u1 number.toNat ++ u1 (4 + lost + 32) ++ [0]) ++
          u1 r.old ++ u1 r.new ++ u1 r.cause.toNat ++
          u1 ((if r.inService then 1 else 0) + (if r.onAir then 2 else 0)) ++ [0] ++ leBytes 4 r.window.toNat ++
          List.replicate 20 0)
       | .controlMoved old new cause w =>
          let code := fun q : Option Port => match q with
            | none => 0
            | some .A => 1
            | some .B => 2
          holds (u1 number.toNat ++ u1 (5 + lost) ++ u1 (code old) ++ u1 (code new) ++
            u1 (match cause with
              | .tried => 0
              | .released => 1
              | .forced => 2
              | .portReset => 3) ++ [0, 0, 0] ++ leBytes 4 w.toNat ++ List.replicate 20 0)) ∧
      (pg.written < 62 → (t.port p).current = some { pg with
          first := if pg.written = 0 then number else pg.first, written := pg.written + 1 } ∧
        stays t fun a => place ≤ a ∧ a < place + 32) ∧
      (pg.written = 62 → b.sealHeader = false → b.sealMark = false →
        (t.port p).current = none ∧ (t.port p).nextPage = (s.port p).nextPage + 1 ∧
        memRead mark (t.port p).hostMem = some 3 ∧
        ∀ i, i < 32 → memRead (pg.address + i) (t.port p).hostMem =
          (leBytes 4 (s.port p).nextPage.toNat ++ leBytes 4 pg.first.toNat ++ [63] ++ u1 (Port.toNat p) ++
            List.replicate 22 0)[i]?) ∧
      stays t (fun a => (place ≤ a ∧ a < place + 32) ∨ a = mark ∨ (pg.address ≤ a ∧ a < pg.address + 32)) ∧
      otherStays t) ∧
    (b.record = true → ∃ t, exec (.journalRecordWrite p b) s = .next t ∧
      (t.port p).queue = it :: rest ∧ (t.port p).nextNumber = number ∧ (t.port p).recordOwed = true ∧
      (t.port p).current = some pg ∧ stays t (fun _ => False) ∧ otherStays t ∧
      ((s.port p).locked = false → (t.port p).faultWord =
        some { kind := .areaWrite, index := pg.entry.val, number := number }))

/-- A written report leaves its message's reports pending, and frees the record with its room when none is left (R42): the
place, every text block of the chain (R26) and the slot's final count; nothing else changes, and while the other report is
pending no room returns. A written record of another kind (PERIOD-TOTAL, PERIOD-END, STATE-CHANGE, CONTROL-MOVED) changes no
message and nothing else. -/
def Obligations.ReportWritten : Prop :=
  (∀ (serial : Nat) (m : Message) (s : State), s.msg? serial = some m →
    (∀ it m', (it = .outcome serial ∧ m.owesDelivery = true ∧ m' = { m with owesOutcome := false }) ∨
        (it = .delivery serial ∧ m.owesOutcome = true ∧ m' = { m with owesDelivery := false }) →
      let t := reportWritten it s
      t.msg? serial = some m' ∧ (∀ x, x ≠ serial → t.msg? x = s.msg? x) ∧ { t with msgs := s.msgs } = s) ∧
    (∀ it, (it = .outcome serial ∧ m.owesDelivery = false ∨ it = .delivery serial ∧ m.owesOutcome = false) →
      let t := reportWritten it s
      t.msg? serial = none ∧ (∀ x, x ≠ serial → t.msg? x = s.msg? x) ∧ t.freePlaces = s.freePlaces + 1 ∧
        t.freeBlocks = s.freeBlocks + m.blocks.length ∧
        (m.chained → t.freeBlocks = s.freeBlocks + (m.text.length + 31) / 32) ∧
        (t.slot m.slot).finalCount = (s.slot m.slot).finalCount - 1 ∧ t.sub? m.slot = s.sub? m.slot ∧
        (∀ n, n ≠ m.slot → t.slot n = s.slot n) ∧
        { t with msgs := s.msgs, slots := s.slots, freePlaces := s.freePlaces, freeBlocks := s.freeBlocks } = s)) ∧
  (∀ s : State,
    (∀ r, reportWritten (.periodTotal r) s = s) ∧
    (∀ period count w, reportWritten (.periodEnd period count w) s = s) ∧
    (∀ r, reportWritten (.stateChange r) s = s) ∧
    (∀ old new cause w, reportWritten (.controlMoved old new cause w) s = s))

/-- HEADER_REFRESH (R184): the port unit writes its whole header again, every field where section 11.9.2 gives it: the vendor
code 0x4E53 and the part code 410, the fault word, the scan position, the flags READY, holds control and journal stalled, the
dropped count, the journal number, the window count, the length in force, the clock state and the global period, the
counters of each line, zone and reply link, of the clock, builder, reply, retry and tag lists, the band and the walk's pause
reason, the walk's state and count. With no area, and on a bus error, nothing is written, and the error is captured. The
revision is an open value (log 10); that the bits no entry names are 0 (log 52), that a bus error leaves every byte unwritten (log 5), and that
the capture's own fault fields are not written in the same event (log 47), are the model's choices. -/
def Obligations.HeaderRefreshed : Prop :=
  ∀ (p : Port) (b : Bus) (s : State), (s.port p).headerDue = true →
    let err := match p with
      | .A => b.headerA
      | .B => b.headerB
    let u := s.port p
    let u1 := fun x : Nat => [BitVec.ofNat 8 x]
    let u2 := fun x : Nat => leBytes 2 x
    Completes (.headerRefresh p b) b s (s.modPort p fun x => { x with headerDue := false }) ∧
    (∀ t base, exec (.headerRefresh p b) s = .next t → u.area = some base → err = false →
      let field := fun (offset : Nat) (bytes : List Byte) =>
        ∀ i, i < bytes.length → memRead (base + offset + i) (t.port p).hostMem = bytes[i]?
      field 0x00 [0x53, 0x4E, 0, 0, 0x9A, 0x01] ∧
      (u.faultWord = none → field 0x08 [0]) ∧
      (∀ f, u.faultWord = some f → field 0x08 (u1 f.kind.toNat) ∧ field 0x0A (u2 f.index) ∧
        field 0x0C (leBytes 4 f.number.toNat)) ∧
      field 0x09 (u1 u.faultCount) ∧
      field 0x10 (u1 u.scanPos.val ++
        u1 ((if s.part = .ready then 1 else 0) + (if s.control.holder = some p then 2 else 0) +
          (if u.stalled then 4 else 0)) ++
        u2 u.dropped ++ leBytes 4 u.nextNumber.toNat ++ leBytes 4 s.now.toNat ++ u2 s.clock.length ++
        u1 (match s.clock.state with
          | .internal => 0
          | .strobe => 1
          | .fallback => 2) ++ [s.globalPeriod]) ∧
      (∀ l : Fin 8, let x := s.line l
        field (0x20 + 8 * l.val) (u1 (match x.state with
            | .closed => 0
            | .opened => 1
            | .quiet => 2) ++ u1 x.errorsSweep ++ u2 x.taken ++ u2 x.busy ++ u2 x.errorTotal)) ∧
      (∀ z : Fin 8, let x := s.zone z
        field (0x60 + 16 * z.val) (u1 (match x.link with
            | .idle => 0
            | .sync => 1
            | .linked => 2
            | .down => 3
            | .test => 4) ++ u1 ((if x.inService then 1 else 0) + (if x.onAir then 2 else 0)) ++ u1 x.errorsSweep ++
          (match x.lastBuild with
            | none => [0xFF, 0xFF]
            | some (cells, items) => u1 items ++ u1 cells) ++ [0] ++
          u2 x.errorTotal ++ u2 x.loadsOnAir ++ u2 x.loadsMissed ++ u2 x.resends ++ u2 x.strayAnswers)) ∧
      field 0xE0 (u2 s.clock.strobesHeard ++ u2 s.clock.early ++ u2 s.clock.fallbacks ++ u2 s.deferrals ++
        u2 s.promotions ++ u2 s.replyCounts.strays ++ u2 s.replyCounts.duplicates ++ u2 s.replyCounts.earlyCloses ++
        u2 s.replyCounts.reclaims ++ u2 s.replyCounts.noTag ++ u2 s.merge.length ++ u2 s.tagFree.length ++
        u2 s.coolDown.length ++ u2 s.offerWait.length ++ u2 s.band.val ++
        u2 (if s.walk.running = false then 0 else match s.control.holder with
          | none => 1
          | some h => if 64 ≤ (s.port h).queue.countP Item.isRecord then 2 else 0)) ∧
      (∀ k : Fin 4, field (0x200 + 4 * k.val) (u2 (s.replyLink k).framesTaken ++ u2 (s.replyLink k).badFrames)) ∧
      field 0x210 (u2 s.retryCounts.attemptsOnAir ++ u2 s.retryCounts.missedReturns ++ u2 s.retryCounts.retries ++
        u2 s.retryCounts.holds ++ u2 s.retryCounts.releases ++ u2 s.retryCounts.exhaustions) ∧
      field 0x21C (leBytes 4 ((if s.walk.running then 1 else 0) + 256 * s.walk.position) ++ leBytes 4 s.walk.count)) ∧
    (∀ t base, exec (.headerRefresh p b) s = .next t → u.area = some base → err = true →
      (t.port p).hostMem = u.hostMem ∧ (u.locked = false → (t.port p).faultWord =
        some { kind := .areaWrite, index := 0, number := u.nextNumber }))

/-- SCAN_END (R185) where no kept answer waits: the scan position becomes the index after the last slip taken, wrapping after
63, and stays where none was taken; SLIPS (bit 0) is raised where a slip was answered; with the rescan mark set a new scan
begins at once and the mark is cleared. What the journal owes is tried again in the same event. A failed seal (R180) is made as
a seal is, or captures AREA-WRITE-ERROR with the entry and stays owed. A failed record write (R179) does what
JOURNAL_RECORD_WRITE does, or captures AREA-WRITE-ERROR and stays owed. A stalled journal (R181) takes the first FREE entry with
a valid address from the search entry on, which clears the stalled mark; each FREE one before it captures BAD-PAGE and is passed
over; a bus error on the read of an entry or on the mark's write is captured and ends the search; with no such entry, or
after such an error, the port stays stalled, and STALL is not raised. The marks of what is owed, and the entry as the index of
a record's fault, are the model's reading (log 27); that a failed access writes nothing, the header of a page being one, is its
choice (log 5). -/
def Obligations.ScanEnd : Prop :=
  ∀ (p : Port) (pages : PageList) (b : Bus) (s : State) (r : ScanRun), (s.port p).scan = some r →
    (s.port p).kept = [] →
    ∃ pos : Fin 64, (r.lastTaken = none → pos = (s.port p).scanPos) ∧
      (∀ ix, r.lastTaken = some ix → pos.val = (ix.val + 1) % 64) ∧
      let ended := fun e : State => e.modPort p fun u =>
        { u with scanPos := pos, rescan := false,
                 scan := if u.rescan then some { start := pos, examined := 0, lastTaken := none, answered := false }
                   else none,
                 notice := if r.answered then u.notice ||| 0x001#10 else u.notice }
      let ends := fun e : State => Completes (.scanEnd p pages b) b s (ended e)
      ((s.port p).stalled = false → (s.port p).recordOwed = false →
        (∀ pg, (s.port p).current = some pg → pg.sealOwed = false) → ends s) ∧
      (∀ base pg, (s.port p).area = some base → (s.port p).current = some pg → (s.port p).stalled = false →
        let header := leBytes 4 (s.port p).nextPage.toNat ++ leBytes 4 pg.first.toNat ++
          [BitVec.ofNat 8 pg.written, BitVec.ofNat 8 (Port.toNat p)] ++ List.replicate 22 0
        (pg.sealOwed = true → b.sealHeader = false → b.sealMark = false →
          ends (s.modPort p fun u => { u with
            current := none, search := ⟨(pg.entry.val + 1) % 16, Nat.mod_lt _ (by decide)⟩, nextPage := u.nextPage + 1,
            recordOwed := false, notice := u.notice ||| 0x002#10,
            hostMem := memWrite (base + 0x100 + 16 * pg.entry.val + 8) [3] (memWrite pg.address header u.hostMem) })) ∧
        (pg.sealOwed = true → b.sealHeader = true ∨ b.sealMark = true →
          ends (capture p .areaWrite pg.entry.val (s.modPort p fun u => { u with
            recordOwed := false,
            hostMem := if b.sealHeader then u.hostMem else memWrite pg.address header u.hostMem }))) ∧
        (pg.sealOwed = false → (s.port p).recordOwed = true → (s.port p).queue ≠ [] → pg.written < 63 →
          (b.record = true → ends (capture p .areaWrite pg.entry.val s)) ∧
          (b.record = false → ∃ e t,
            exec (.journalRecordWrite p b) (s.modPort p fun u => { u with recordOwed := false }) = .next e ∧
            exec (.scanEnd p pages b) s = .next t ∧ EndsAs b (ended e) t))) ∧
      (∀ base, (s.port p).area = some base → (s.port p).stalled = true → (s.port p).recordOwed = false →
        (s.port p).current = none →
        let entry := fun k : Nat => ((s.port p).search.val + k) % 16
        let bad : PageEntry → Bool := fun e => decide (e.mark = 1 ∧ (e.address = 0 ∨ e.address.toNat % 2048 ≠ 0))
        let passed := fun k : Nat => ∀ j < k, ∃ e, pages.getD (entry j) none = some e ∧
          (e.mark = 0 ∨ e.mark = 2 ∨ e.mark = 3 ∨ bad e = true)
        let faulted := fun k : Nat => (List.range k).foldl (fun e j =>
          if (pages.getD (entry j) none).any bad then capture p .badPage (entry j) e else e) s
        (passed 16 → ends (faulted 16)) ∧
        (∀ k, k < 16 → passed k →
          (pages.getD (entry k) none = none → ends (capture p .areaRead (entry k) (faulted k))) ∧
          (∀ e, pages.getD (entry k) none = some e → e.mark = 1 → e.address ≠ 0 → e.address.toNat % 2048 = 0 →
            (b.filling = true → ends (capture p .areaWrite (entry k) (faulted k))) ∧
            (b.filling = false → ends ((faulted k).modPort p fun u => { u with
              current := some { entry := ⟨entry k, Nat.mod_lt _ (by decide)⟩, address := e.address.toNat, written := 0,
                                first := 0, since := s.now, sealOwed := false },
              stalled := false,
              hostMem := memWrite (base + 0x100 + 16 * entry k + 8) [2] u.hostMem })))))

/-- Slips and bus errors (R185, R186, R188): a bus error on the read leaves the slip as it is and captures AREA-READ-ERROR
with its index. One on the write of the answer or of its mark comes after the slip has been acted on: with the effect and the
answer that the same slip has where the writes succeed, the answer is kept under the index, AREA-WRITE-ERROR is captured with
it (after MALFORMED-SLIP for a MALFORMED answer), the slip counts as taken, and it stays unmarked: only the answer's bytes are
written, and those only where the error met the mark alone. A kept answer of the index is written in place of acting on the
slip again and leaves the kept answers, or stays and AREA-WRITE-ERROR is captured. That such a slip does not yet count as
answered is the model's reading (log 9); that an answer is one access, a failed one writes nothing (log 5), and MALFORMED-SLIP
comes before AREA-WRITE-ERROR (log 48), are its choices. -/
def Obligations.SlipBusErrors : Prop :=
  ∀ (c : Instr) (p : Port) (ix : Fin 64) (b : Bus) (s : State), slipOf c = some (p, ix, b) → s.canTake p ix = true →
    ((s.port p).kept = [] → b.slipRead = true →
      Completes c b s (capture p .areaRead ix.val (s.reached p ix))) ∧
    ((s.port p).kept = [] → b.slipRead = false → b.answer = true ∨ b.mark = true →
      let clean := { b with answer := false, mark := false }
      ∃ e a t, Answers (onBus clean c) p ix clean s e a ∧ exec c s = .next t ∧
        t.bare = (e.modPort p fun u =>
          { u with kept := [(ix.val, a)],
                   scan := ((s.reached p ix).port p).scan.map fun r => { r with lastTaken := some ix } }).bare ∧
        ((s.port p).locked = false → (t.port p).faultWord = some
          { kind := if a.code = .malformed then .malformedSlip else .areaWrite, index := ix.val,
            number := (s.port p).nextNumber }) ∧
        (∀ base, (s.port p).area = some base →
          (∀ x, ¬ headerByte (some base) x →
            b.answer = true ∨ x < slipAddress base ix + 8 ∨ slipAddress base ix + 8 + a.bytes.length ≤ x →
              memRead x (t.port p).hostMem = memRead x (s.port p).hostMem) ∧
          (b.answer = false → ∀ i, i < a.bytes.length →
            memRead (slipAddress base ix + 8 + i) (t.port p).hostMem = a.bytes[i]?)) ∧
        (∀ x, ¬ headerByte (s.port p.other).area x →
          memRead x (t.port p.other).hostMem = memRead x (s.port p.other).hostMem)) ∧
    (∀ a base r, (s.port p).kept = [(ix.val, a)] → (s.port p).area = some base → (s.port p).scan = some r →
      r.examined = r.offset ix →
        (b.kept.getLsbD ix.val = false → ∃ t, exec c s = .next t ∧ (t.port p).kept = [] ∧ SlipHolds p ix b a s t ∧
          { t.bare with portA := s.bare.portA, portB := s.bare.portB } = s.bare) ∧
        (b.kept.getLsbD ix.val = true → Completes c b s (capture p .areaWrite ix.val (s.reached p ix))))

/-! ### The period close walk (R171 to R173) -/

/-- PERIOD_WALK_STEP (R172, R173): a slot with a subscriber of another period gives a PERIOD-TOTAL record of the values
before the visit to the holder's queue, and its account opens the new period; a VACANT slot, or one of the new period
already, is passed over; the position rises by one. PERIOD_END (R173): at position 16,384 the walk emits PERIOD-END with the
period, the count of its records and now, and stops. Neither is taken while the walk is paused, with no holder or with 64
non-message items in the holder's queue; that such an event, and one of a walk not running, changes nothing is the model's
choice (log 1). -/
def Obligations.PeriodWalk : Prop :=
  (∀ (b : Bus) (s : State) (h : Port), s.walk.running = true → s.walk.position < 16384 →
    s.control.holder = some h → (s.port h).queue.countP Item.isRecord < 64 →
    let n := s.walk.position
    (s.sub? n = none → Completes (.periodWalkStep b) b s { s with walk.position := n + 1 }) ∧
    (∀ x, s.sub? n = some x → x.account.period = s.walk.newPeriod →
      Completes (.periodWalkStep b) b s { s with walk.position := n + 1 }) ∧
    (∀ x, s.sub? n = some x → x.account.period ≠ s.walk.newPeriod →
      let a := x.account
      let record := Item.periodTotal
        { slot := n, number := x.number, period := a.period, balance := a.balance, committed := a.committed,
          usage := a.usage, allowance := a.allowance, periodCharge := a.periodCharge, periodCount := a.periodCount,
          periodAllowance := a.periodAllowance, postpaid := a.postpaid }
      let opened := { a with
        usage := 0, periodCharge := 0, periodCount := 0, periodAllowance := 0,
        allowance := (s.plan x.plan).allowance, postpaid := .opened, period := s.walk.newPeriod }
      Completes (.periodWalkStep b) b s
        ({ s with slots := Assoc.put n { sub := some { x with account := opened }, finalCount := (s.slot n).finalCount }
                    s.slots,
                  walk.position := n + 1, walk.count := s.walk.count + 1 }.modPort h fun u =>
          { u with queue := u.queue ++ [record] }))) ∧
  (∀ (b : Bus) (s : State),
    (∀ h, s.walk.running = true → s.walk.position = 16384 → s.control.holder = some h →
      (s.port h).queue.countP Item.isRecord < 64 →
      Completes (.periodEnd b) b s ({ s with walk.running := false }.modPort h fun u =>
        { u with queue := u.queue ++ [Item.periodEnd s.walk.newPeriod s.walk.count s.now] })) ∧
    ((s.control.holder = none ∨ ∃ h, s.control.holder = some h ∧ 64 ≤ (s.port h).queue.countP Item.isRecord) →
      s.walk.running = true → exec (.periodWalkStep b) s = .next s ∧ exec (.periodEnd b) s = .next s) ∧
    (s.walk.running = false → exec (.periodWalkStep b) s = .next s ∧ exec (.periodEnd b) s = .next s))

/-! ### Entry lines (chapter 3) -/

/-- A byte on an entry line (R47): a CLOSED line takes none; HUNTING takes the lead mark, which begins a frame under the
frame timeout of now, and ignores every other byte; ASSEMBLING takes a byte that neither completes the frame nor is a body
length over 251. ANSWER_SENT (R51): the answer at the head of the queue leaves it. -/
def Obligations.LineBytes : Prop :=
  (∀ (l : Fin 8) (byte : Byte) (b : Bus) (s : State),
    ((s.line l).state = .closed → Completes (.entryLineByteArrival l byte b) b s s) ∧
    ((s.line l).state ≠ .closed → (s.line l).rx = .hunting → byte ≠ 0x7E →
      Completes (.entryLineByteArrival l byte b) b s s) ∧
    ((s.line l).state ≠ .closed → (s.line l).rx = .hunting → byte = 0x7E →
      Completes (.entryLineByteArrival l byte b) b s
        (s.modLine l fun x => { x with rx := .assembling s.ms (s.settings.frameTimeout * 1000), buffer := [] })) ∧
    (∀ lead limit, (s.line l).state ≠ .closed → (s.line l).rx = .assembling lead limit →
      frameShort ((s.line l).buffer ++ [byte]) →
      Completes (.entryLineByteArrival l byte b) b s (s.modLine l fun x => { x with buffer := x.buffer ++ [byte] }))) ∧
  (∀ (l : Fin 8) (a : LineAnswer) (rest : List LineAnswer) (b : Bus) (s : State), (s.line l).answers = a :: rest →
    Completes (.answerSent l b) b s (s.modLine l fun x => { x with answers := rest }))

/-- LINE_PROBE_FRAME (R48, R52): a complete PROBE with a correct check and no body, on a line with fewer than 8 answers
waiting, is answered ALIVE with its tag and the part state on an OPEN line, and REFUSED LINE-QUIET on a QUIET one, as every
SUBMIT is there.
LINE_SUBMIT_FRAME (R48, R52 to R55): a complete SUBMIT with a correct check and a suitable length, on an OPEN line: the tag
and check of the last-taken memory is a repeat, answered TAKEN REPEATED with no new message; an unknown message kind is
refused BAD-KIND; another is degraded, never refused on its text or class (R54); no room is answered BUSY and counted; another failed check is refused by its reason; one that passes the
checks creates one message, counts it, remembers it, and answers TAKEN with its serial. -/
def Obligations.LineFrames : Prop :=
  (∀ (l : Fin 8) (tag byte : Byte) (lead limit : Nat) (b : Bus) (s : State),
    (s.line l).rx = .assembling lead limit → (s.line l).buffer = [2, tag, 0] → byte = crc8 [2, tag, 0] →
    (s.line l).answers.length < 8 →
    ((s.line l).state = .opened →
      Completes (.lineProbeFrame l byte b) b s (s.modLine l fun x =>
        { x with rx := .hunting, buffer := [], answers := x.answers ++ [.alive tag s.part] })) ∧
    ((s.line l).state = .quiet →
      Completes (.lineProbeFrame l byte b) b s (s.modLine l fun x =>
        { x with rx := .hunting, buffer := [], answers := x.answers ++ [.refused tag .lineQuiet] }))) ∧
  (∀ (l : Fin 8) (tag byte : Byte) (body : List Byte) (lead limit : Nat) (b : Bus) (s : State),
    let head := [1, tag, BitVec.ofNat 8 body.length] ++ body
    (s.line l).rx = .assembling lead limit → (s.line l).state = .opened → (s.line l).buffer = head →
    7 ≤ body.length → body.length ≤ 251 → body.length = 7 + (body.getD 6 0).toNat → byte = crc8 head →
    (s.line l).answers.length < 8 →
    let done := fun (a : LineAnswer) (x : Line) => { x with rx := .hunting, buffer := [], answers := x.answers ++ [a] }
    let repeated := ∃ last, (s.line l).lastTaken = some last ∧ last.tag = tag ∧ last.check = byte
    (∀ last, (s.line l).lastTaken = some last → last.tag = tag → last.check = byte →
      Completes (.lineSubmitFrame l byte b) b s
        (s.modLine l (done (.taken tag last.serial (last.flags ||| 8#8))))) ∧
    (¬ repeated → 2 < (body.getD 5 0).toNat →
      Completes (.lineSubmitFrame l byte b) b s (s.modLine l (done (.refused tag .badKind)))) ∧
    (¬ repeated → (body.getD 5 0).toNat ≤ 2 → ∃ d r, Degraded (body.getD 4 0) (body.getD 5 0) (body.drop 7) d ∧
      r = ({ origin := .line l, clientRef := tag.setWidth 32, number := beNat (body.take 4), expiry := 0, body := d } :
        Submission) ∧
      (∀ e reason, checkSubmission r s = .error e →
        (match e with
          | .unknown => some RefuseReason.unknown
          | .suspended => some .suspended
          | .kindNotAllowed => some .kindNotAllowed
          | .queueFull => some .queueFull
          | .noCredit _ => some .noCredit
          | .noRoom => none) = some reason →
        Completes (.lineSubmitFrame l byte b) b s (s.modLine l (done (.refused tag reason)))) ∧
      (checkSubmission r s = .error .noRoom →
        Completes (.lineSubmitFrame l byte b) b s
          (s.modLine l fun x => { done (.busy tag) x with busy := min 65535 (x.busy + 1) })) ∧
      (∀ m, checkSubmission r s = .ok m →
        let flags := (if d.truncated then 1#8 else 0#8) ||| (if d.altered then 2#8 else 0#8) |||
          (if m.cls ≠ d.cls then 4#8 else 0#8)
        Completes (.lineSubmitFrame l byte b) b s ((acceptMessage m s).modLine l fun x =>
          { done (.taken tag m.serial flags) x with
              taken := min 65535 (x.taken + 1),
              lastTaken := some { tag := tag, check := byte, serial := m.serial, flags := flags } })))) ∧
  (∀ (l : Fin 8) (tag byte : Byte) (body : List Byte) (lead limit : Nat) (b : Bus) (s : State),
    let head := [1, tag, BitVec.ofNat 8 body.length] ++ body
    (s.line l).rx = .assembling lead limit → (s.line l).state = .quiet → (s.line l).buffer = head →
    7 ≤ body.length → body.length ≤ 251 → body.length = 7 + (body.getD 6 0).toNat → byte = crc8 head →
    (s.line l).answers.length < 8 →
      Completes (.lineSubmitFrame l byte b) b s (s.modLine l fun x =>
        { x with rx := .hunting, buffer := [], answers := x.answers ++ [.refused tag .lineQuiet] }))

/-- Errors of an entry line (R47 to R51): a body length over 251, a framing failure after the tag, and a complete frame with a
bad check, an unknown kind or a length that does not suit its kind (R48) are answered REFUSED BAD-FRAME, a framing failure
before the tag and a frame timeout are not answered; each counts one error and ends the frame; with 8 answers waiting any
complete frame is discarded with the same error; below the threshold the line keeps its state. The rows of the two kinds act
on a complete frame as the byte row does, which is the model's choice (log 21), and so are that the timeout carries the time to
its moment (log 4) and that IN-SERVICE and ON-AIR of a line's record are 0 (log 43). An OPEN
line whose errors this sweep reach the threshold, shown by a frame timeout, becomes QUIET, LINE (bit 6) is raised at both
ports, and both are offered the record OPEN to QUIET. -/
def Obligations.LineErrors : Prop :=
  (∀ (l : Fin 8) (byte : Byte) (lead limit : Nat) (b : Bus) (s : State),
    (s.line l).rx = .assembling lead limit → (s.line l).state ≠ .closed →
    ((s.line l).state = .opened → min 255 ((s.line l).errorsSweep + 1) < s.settings.lineThreshold) →
    let error := fun x : Line => { x with
      rx := .hunting, buffer := [], errorsSweep := min 255 (x.errorsSweep + 1), errorTotal := min 65535 (x.errorTotal + 1) }
    let refused := fun (tag : Byte) (x : Line) =>
      { error x with answers := if 8 ≤ x.answers.length then x.answers else x.answers ++ [.refused tag .badFrame] }
    ((s.line l).buffer.length = 2 → 251 < byte.toNat →
      Completes (.bodyLengthOverrun l byte b) b s (s.modLine l (refused ((s.line l).buffer.getD 1 0)))) ∧
    (2 ≤ (s.line l).buffer.length →
      Completes (.lineFramingFailure l b) b s (s.modLine l (refused ((s.line l).buffer.getD 1 0)))) ∧
    ((s.line l).buffer.length < 2 → Completes (.lineFramingFailure l b) b s (s.modLine l error)) ∧
    Completes (.frameTimeout l b) b s
      ({ s with ms := max s.ms (lead + limit), clock.timer := s.clock.timer + (lead + limit - s.ms) }.modLine l error) ∧
    (∀ (kind tag : Byte) (body : List Byte), (s.line l).buffer = [kind, tag, BitVec.ofNat 8 body.length] ++ body →
      body.length ≤ 251 →
      let faulty := byte ≠ crc8 (s.line l).buffer ∨ (kind ≠ 1 ∧ kind ≠ 2) ∨ (kind = 2 ∧ body ≠ []) ∨
        (kind = 1 ∧ ¬ (7 ≤ body.length ∧ body.length = 7 + (body.getD 6 0).toNat))
      (faulty → Completes (.entryLineByteArrival l byte b) b s (s.modLine l (refused tag))) ∧
      (8 ≤ (s.line l).answers.length → Completes (.entryLineByteArrival l byte b) b s (s.modLine l error)) ∧
      (kind = 1 → exec (.lineSubmitFrame l byte b) s = exec (.entryLineByteArrival l byte b) s) ∧
      (kind = 2 → exec (.lineProbeFrame l byte b) s = exec (.entryLineByteArrival l byte b) s))) ∧
  (∀ (l : Fin 8) (lead limit : Nat) (b : Bus) (s : State),
    (s.line l).rx = .assembling lead limit → (s.line l).state = .opened →
    s.settings.lineThreshold ≤ min 255 ((s.line l).errorsSweep + 1) →
    ∃ t, exec (.frameTimeout l b) s = .next t ∧ (t.line l).state = .quiet ∧ (t.line l).rx = .hunting ∧
      (∀ k, k ≠ l → t.line k = s.line k) ∧
      ∀ p, (t.port p).notice.getLsbD 6 = true ∧
        ((s.port p).queue.countP Item.isRecord < 64 → (t.port p).queue = (s.port p).queue ++
          [.stateChange { source := .line l, old := 1, new := 2, cause := .errors, inService := false, onAir := false,
                          window := s.now }]))

/-! ### Reply links (chapter 7) -/

/-- A byte on a reply link (R116, R117): while the part is STARTING it is discarded; HUNTING takes the lead mark and ignores
every other byte; ASSEMBLING takes the bytes of a frame short of nine. A framing failure, and a window start, end a frame
in assembly as a bad one, and so does each of the six tests of R117 that a whole frame fails. A whole frame of any kind whose
tag or pager number resolves to no two-way subscriber counts one stray; one of any kind that matches an open merge list entry
joins it and counts one duplicate, and confirms the tag where it comes under an OFFERED one (R119, R120); neither has another
effect but on the link. The byte row acts on a whole frame as the row of its kind does, which is the model's choice (log 21). -/
def Obligations.ReplyLinkBytes : Prop :=
  (∀ (k : Fin 4) (byte : Byte) (b : Bus) (s : State),
    let bad := fun r : ReplyLink => { r with rx := none, badFrames := min 65535 (r.badFrames + 1) }
    (s.part = .starting → Completes (.replyLinkByteArrival k byte b) b s s) ∧
    (s.part = .ready → (s.replyLink k).rx = none →
      Completes (.replyLinkByteArrival k byte b) b s
        (if byte = 0x7E then s.modReplyLink k fun r => { r with rx := some [] } else s)) ∧
    (∀ bs, s.part = .ready → (s.replyLink k).rx = some bs → bs.length < 8 →
      Completes (.replyLinkByteArrival k byte b) b s (s.modReplyLink k fun r => { r with rx := some (bs ++ [byte]) })) ∧
    (∀ bs, (s.replyLink k).rx = some bs →
      Completes (.replyLinkFramingFailure k b) b s (s.modReplyLink k bad)) ∧
    (s.due.replyDiscard.getLsbD k.val = true →
      let d := { s with due.replyDiscard := s.due.replyDiscard &&& ~~~(1#4 <<< k.val) }
      (∀ bs, (s.replyLink k).rx = some bs →
        Completes (.replyFrameWindowDiscard k b) b s (d.modReplyLink k bad)) ∧
      ((s.replyLink k).rx = none → exec (.replyFrameWindowDiscard k b) s = .next d)) ∧
    (∀ bs, s.part = .ready → (s.replyLink k).rx = some bs → bs.length = 8 →
      let tag := beNat ((bs.drop 2).take 2) % 4096
      let fails := byte ≠ crc8 bs ∨ 15 < (bs.getD 0 0).toNat ∨ ¬ (1 ≤ (bs.getD 1 0).toNat ∧ (bs.getD 1 0).toNat ≤ 4) ∨
        (bs.getD 1 0 = 3 ∧ tag ≠ 0) ∨ (bs.getD 1 0 = 4 ∧ tag = 0) ∨ (tag = 0 ∧ beNat ((bs.drop 4).take 3) = 0) ∨
        63 < (bs.getD 7 0).toNat
      (fails → Completes (.replyLinkByteArrival k byte b) b s (s.modReplyLink k bad)) ∧
      (∀ rk : ReplyKind, (bs.getD 1 0).toNat = rk.toNat →
        exec (rk.frame k byte b) s = exec (.replyLinkByteArrival k byte b) s))) ∧
  (∀ (rk : ReplyKind) (k : Fin 4) (byte : Byte) (site : Fin 16) (tag pager seq : Nat) (b : Bus) (s : State),
    ReplyArrives k byte site (BitVec.ofNat 8 rk.toNat) tag pager seq s →
    (rk = .register → tag = 0) → (rk = .tagConfirm → tag ≠ 0) →
    let taken := s.modReplyLink k fun r => { r with rx := none, framesTaken := min 65535 (r.framesTaken + 1) }
    let found := if tag = 0 then Assoc.get? pager s.pagers else Assoc.get? tag s.tags
    ((∀ slot sub, found = some slot → s.sub? slot = some sub → sub.twoWay = false) →
      Completes (rk.frame k byte b) b s { taken with replyCounts.strays := min 65535 (s.replyCounts.strays + 1) }) ∧
    (∀ slot sub, found = some slot → s.sub? slot = some sub → sub.twoWay = true →
      let sq := if rk = .ack ∨ rk = .gap then seq else 0
      let same := fun e : MergeEntry => decide (e.kind = rk ∧ e.slot = slot ∧ e.pager = sub.pager ∧ e.seq = sq)
      (∃ e ∈ s.merge, same e = true) →
        let joined := { taken with
          merge := s.merge.map fun e => if same e then { e with sites := e.sites ||| (1#16 <<< site.val) } else e,
          replyCounts.duplicates := min 65535 (s.replyCounts.duplicates + 1) }
        (tag = 0 ∨ sub.tagState ≠ .offered → Completes (rk.frame k byte b) b s joined) ∧
        (tag ≠ 0 → sub.tagState = .offered → sub.pending = none →
          Completes (rk.frame k byte b) b s
            { joined.modSub slot (fun x => { x with tagState := .confirmed, offers := 0 }) with
              offerWait := s.offerWait.filter fun e => e.slot != slot })))

/-- An ACK, GAP or TAG-CONFIRM that opens a merge list entry (R119, R120, R123, R127, R145, R146), by pager number or tag; one
under an OFFERED tag first makes it CONFIRMED, ends the wait for it and drops a pending offer, placed or not, with its copies in
the loads of its window that await transfer (R95); a pending TAG-WITHDRAW stays. The ACK of a message
that is SENT, RETRY-WAIT, LOADED or HELD makes it FINAL DELIVERED; the ACK of a WAITING or of no message, and the GAP of a
WAITING, LOADED or HELD or of no message, count a stray. The GAP of a SENT or RETRY-WAIT message makes every older one of its
subscriber that is SENT or RETRY-WAIT FINAL DELIVERED, and makes the message, with attempts left, RETRY-WAIT at the first wake
window at or after now + 2, and without, HELD or FINAL UNDELIVERABLE by the plan; that attempts above the limit + 1 count as
none left is the model's choice (log 45). No other message changes. The TAG-CONFIRM has no other effect. With 32 entries open a reply of any kind first closes the oldest one, counted, with its effect on the last-known
zones and the last reply window of its subscriber. -/
def Obligations.RepliesActedOn : Prop :=
  (∀ (k : Fin 4) (byte : Byte) (site : Fin 16) (tag pager seq slot : Nat) (sub : Subscriber) (b : Bus) (s : State),
    s.merge.length < 32 → s.sub? slot = some sub → sub.twoWay = true →
    (if tag = 0 then Assoc.get? pager s.pagers else Assoc.get? tag s.tags) = some slot →
    let unplaced := fun ld : Load => match sub.pending with
      | some pd =>
        let mine := LoadItem.isControl pd.kind slot pd.tag
        if pd.kind = .offer ∧ pd.placed = true ∧ ld.window = pd.due ∧ ld.xfer = .awaiting then
          { ld with items := ld.items.filter fun it => !mine it,
                    cells := ld.cells - ((ld.items.filter mine).map LoadItem.cells).sum,
                    controls := ld.controls - ld.items.countP mine }
        else ld
      | none => ld
    let confirmed := if tag ≠ 0 ∧ sub.tagState = .offered then
        { s.modSub slot (fun x => { x with
            tagState := .confirmed, offers := 0, pending := x.pending.filter fun pd => decide (pd.kind = .withdraw) }) with
          offerWait := s.offerWait.filter (fun e => e.slot != slot),
          zones := Vector.ofFn fun z => { s.zones[z] with held := s.zones[z].held.map unplaced } }
      else s
    let open1 := fun (kind : ReplyKind) (sq : Nat) =>
      { confirmed.modReplyLink k (fun r => { r with rx := none, framesTaken := min 65535 (r.framesTaken + 1) }) with
        merge := s.merge ++ [{ kind := kind, slot := slot, pager := sub.pager, seq := sq, first := s.now,
                               sites := 1#16 <<< site.val }] }
    let strayed := fun (kind : ReplyKind) =>
      { open1 kind seq with replyCounts.strays := min 65535 (s.replyCounts.strays + 1) }
    let fresh := fun (kind : ReplyKind) (sq : Nat) => ∀ e ∈ s.merge,
      ¬ (e.kind = kind ∧ e.slot = slot ∧ e.pager = sub.pager ∧ e.seq = sq)
    (ReplyArrives k byte site 1 tag pager seq s → fresh .ack seq →
      (∀ m, s.queuedWithSeq slot seq = some m → m.state ≠ .waiting → m.state ≠ .final →
        Completes (.ack k byte b) b s (finalize m.serial .delivered (open1 .ack seq))) ∧
      ((∀ m, s.queuedWithSeq slot seq = some m → m.state = .waiting) → Completes (.ack k byte b) b s (strayed .ack))) ∧
    (ReplyArrives k byte site 2 tag pager seq s → fresh .gap seq →
      ((∀ m, s.queuedWithSeq slot seq = some m → m.state = .waiting ∨ m.state = .loaded ∨ m.state = .held) →
        Completes (.gap k byte b) b s (strayed .gap)) ∧
      (∀ m, StoreAgrees s → s.queuedWithSeq slot seq = some m → m.state = .sent ∨ m.state = .retryWait →
        let older := fun x : Message => x.slot = slot ∧ (x.state = .sent ∨ x.state = .retryWait) ∧ x.serial < m.serial
        ∃ t, exec (.gap k byte b) s = .next t ∧ t.merge = (open1 .gap seq).merge ∧
          (∀ j x, s.msg? j = some x → older x →
            ∃ f, t.msg? j = some f ∧ f.state = .final ∧ f.disposition = some .delivered) ∧
          (∀ j x, s.msg? j = some x → ¬ older x → j ≠ m.serial → t.msg? j = some x) ∧
          (m.attempts < (s.plan sub.plan).retryLimit + 1 →
            t.msg? m.serial =
              some { m with state := .retryWait, deadline := none, due := some (sub.wakeAt (s.now + 2)) } ∧
            t.retryCounts = { s.retryCounts with retries := min 65535 (s.retryCounts.retries + 1) }) ∧
          ((s.plan sub.plan).retryLimit + 1 ≤ m.attempts →
            ((s.plan sub.plan).hold = true →
              t.msg? m.serial = some { m with state := .held, deadline := none, due := none } ∧
              t.retryCounts = { s.retryCounts with holds := min 65535 (s.retryCounts.holds + 1) }) ∧
            ((s.plan sub.plan).hold = false →
              (∃ f, t.msg? m.serial = some f ∧ f.state = .final ∧ f.disposition = some .undeliverable) ∧
              t.retryCounts = { s.retryCounts with exhaustions := min 65535 (s.retryCounts.exhaustions + 1) })))) ∧
    (tag ≠ 0 → ReplyArrives k byte site 4 tag pager seq s → fresh .tagConfirm 0 →
      Completes (.tagConfirm k byte b) b s (open1 .tagConfirm 0))) ∧
  (∀ (rk : ReplyKind) (k : Fin 4) (byte : Byte) (site : Fin 16) (tag pager seq slot : Nat) (sub : Subscriber)
    (e : MergeEntry) (rest : List MergeEntry) (b : Bus) (s : State),
    s.merge = e :: rest → rest.length = 31 → ReplyArrives k byte site (BitVec.ofNat 8 rk.toNat) tag pager seq s →
    (rk = .register → tag = 0) → (rk = .tagConfirm → tag ≠ 0) →
    (if tag = 0 then Assoc.get? pager s.pagers else Assoc.get? tag s.tags) = some slot →
    s.sub? slot = some sub → sub.twoWay = true →
    let sq := if rk = .ack ∨ rk = .gap then seq else 0
    (∀ x ∈ s.merge, ¬ (x.kind = rk ∧ x.slot = slot ∧ x.pager = sub.pager ∧ x.seq = sq)) →
    ∃ t, exec (rk.frame k byte b) s = .next t ∧
      t.merge = rest ++ [{ kind := rk, slot := slot, pager := sub.pager, seq := sq, first := s.now,
                           sites := 1#16 <<< site.val }] ∧
      t.replyCounts.earlyCloses = min 65535 (s.replyCounts.earlyCloses + 1) ∧
      (∀ x, s.sub? e.slot = some x → x.twoWay = true → x.pager = e.pager → rk ≠ .register ∨ e.slot ≠ slot →
        let zones := zonesOfSites s.settings e.sites &&& x.area
        ∃ y, t.sub? e.slot = some y ∧ y.lastKnown = (if zones = 0 then x.lastKnown else some zones) ∧
          y.lastReply = match x.lastReply with
            | some w => some (if winLater w e.first then w else e.first)
            | none => some e.first))

/-- A REGISTER that opens an entry (R124 to R126, R147): the last-known zone becomes the site's where it lies in the service
area; a subscriber without a tag takes the head of the free list, and the tag is offered at the first wake window at or
after now + 2; a holder is offered the tag it has again, an earlier pending offer and its offer wait entry being replaced; with
a TAG-WITHDRAW pending no tag is given and the withdraw stands, and that registrations without tag does not rise then is the
model's reading (log 30); with an empty free list registrations without tag rises, no tag
is given, and the reclaim takes the tag of the eligible holder (CONFIRMED, heard, none of its messages LOADED or SENT) heard
earliest, the lowest tag between equals: it enters cool-down with no end window and a TAG-WITHDRAW is pending; with no eligible
holder nothing is reclaimed. In each of these cases, each HELD message of the queue in a round below 4 begins a new round, due
at that wake window, and is counted as a release; each RETRY-WAIT one is due then with backoff 0; one HELD in round 4, one in
another state and one of another queue stay as they are. -/
def Obligations.Registration : Prop :=
  (∀ (k : Fin 4) (byte : Byte) (site : Fin 16) (pager seq slot tag : Nat) (free : List Nat) (sub : Subscriber) (b : Bus)
    (s : State),
    s.merge.length < 32 → (∀ e ∈ s.merge, ¬ (e.kind = .register ∧ e.slot = slot)) →
    ReplyArrives k byte site 3 0 pager seq s → Assoc.get? pager s.pagers = some slot →
    s.sub? slot = some sub → sub.twoWay = true → sub.tag = none → sub.pending = none → s.tagFree = tag :: free →
    let zone := 1#8 <<< (s.settings.siteZone[site]).val
    let due := sub.wakeAt (s.now + 2)
    ∃ t, exec (.register k byte b) s = .next t ∧ t.tagFree = free ∧ Assoc.get? tag t.tags = some slot ∧
      t.sub? slot = some { sub with
        lastKnown := if sub.area &&& zone ≠ 0 then some zone else sub.lastKnown,
        tag := some tag, tagState := .offered, offers := 0,
        pending := some { kind := .offer, tag := tag, due := due, placed := false } } ∧
      t.replyCounts = s.replyCounts) ∧
  (∀ (k : Fin 4) (byte : Byte) (site : Fin 16) (pager seq slot : Nat) (sub : Subscriber) (b : Bus) (s : State),
    s.merge.length < 32 → (∀ e ∈ s.merge, ¬ (e.kind = .register ∧ e.slot = slot)) →
    ReplyArrives k byte site 3 0 pager seq s → Assoc.get? pager s.pagers = some slot →
    s.sub? slot = some sub → sub.twoWay = true →
    let zone := 1#8 <<< (s.settings.siteZone[site]).val
    let known := if sub.area &&& zone ≠ 0 then some zone else sub.lastKnown
    let keeps := fun t : State => t.tags = s.tags ∧ t.tagFree = s.tagFree ∧ t.coolDown = s.coolDown ∧
      t.replyCounts.reclaims = s.replyCounts.reclaims ∧ ∀ n, n ≠ slot → t.slot n = s.slot n
    let withdrawPending := ∃ pd, sub.pending = some pd ∧ pd.kind = .withdraw
    let eligible := fun (e : Nat × Nat) (x : Subscriber) (w : Win) => e ∈ s.tags ∧ s.sub? e.2 = some x ∧
      x.tagState = .confirmed ∧ x.lastReply = some w ∧ s.inFlight e.2 = false
    let due := some (sub.wakeAt (s.now + 2))
    ∃ t, exec (.register k byte b) s = .next t ∧
      (∀ serial ∈ sub.queue, ∀ m, s.msg? serial = some m → t.msg? serial = some
        (if m.state = .held ∧ m.round < 4 then
          { m with state := .waiting, round := m.round + 1, attempts := 0, backoff := 0, due := due }
        else if m.state = .retryWait then { m with backoff := 0, due := due } else m)) ∧
      (∀ serial, serial ∉ sub.queue → t.msg? serial = s.msg? serial) ∧
      (StoreAgrees s → s.retryCounts.releases ≤ 65535 → t.retryCounts = { s.retryCounts with
        releases := min 65535 (s.retryCounts.releases +
          sub.queue.countP fun x => (s.msg? x).any fun m => decide (m.state = .held ∧ m.round < 4)) }) ∧
      (∀ tag, sub.tag = some tag → ¬ withdrawPending → keeps t ∧
        t.replyCounts.noTag = s.replyCounts.noTag ∧ (∀ e ∈ t.offerWait, e.slot ≠ slot) ∧
        t.sub? slot = some { sub with
          lastKnown := known, tagState := .offered, offers := 0,
          pending := some { kind := .offer, tag := tag, due := sub.wakeAt (s.now + 2), placed := false } }) ∧
      (sub.tag = none → withdrawPending → keeps t ∧ t.replyCounts.noTag = s.replyCounts.noTag ∧
        t.sub? slot = some { sub with lastKnown := known }) ∧
      (sub.tag = none → ¬ withdrawPending → s.tagFree = [] → TagsPlaced s →
        t.replyCounts.noTag = min 65535 (s.replyCounts.noTag + 1) ∧ t.tagFree = [] ∧
        t.sub? slot = some { sub with lastKnown := known } ∧
        ((∀ e x w, ¬ eligible e x w) → keeps t) ∧
        (∀ e x w, eligible e x w →
          (∀ e' x' w', eligible e' x' w' → e' ≠ e → winLater w' w = true ∨ (w' = w ∧ e.1 < e'.1)) →
          t.tags = (s.tags.filter fun y => y.1 != e.1) ∧ t.coolDown = s.coolDown ++ [(e.1, none)] ∧
          t.replyCounts.reclaims = min 65535 (s.replyCounts.reclaims + 1) ∧
          t.sub? e.2 = some { x with
            tag := none, tagState := .none, offers := 0,
            pending := some { kind := .withdraw, tag := e.1, due := x.wakeAt (s.now + 2), placed := false } } ∧
          ∀ n, n ≠ slot → n ≠ e.2 → t.slot n = s.slot n)))

/-! ### Controller answers (chapter 6) -/

/-- A complete answer that does not suit its exchange (R103, R105): with a correct check, a LOAD-OK or LOAD-BAD while no
load is SENDING, a LOAD-OK or LOAD-BAD that names another window than that of the load in SENDING, a LOAD-OK after the start of
that window (R79, R106), a PROBE-OK while no probe waits and an ECHO while no echo is awaited count one stray answer, and their
status is not taken. A bad check (R101, R105, R114) fails the probe that is awaited, or is a test mismatch and ends the wait for
an echo, and with neither awaited is discarded; a probe's error that reaches the threshold brings the link DOWN (R107); that it does
so whatever the answer's kind is the model's choice (log 40). ECHO for the test load whose echo is awaited (R114): an
equal body ends the wait; another body counts one test mismatch and ends it; an echo that names another window is a stray
answer and the wait goes on. -/
def Obligations.StrayAndEchoAnswers : Prop :=
  (∀ (z : Fin 8) (kind byte : Byte) (bs : List Byte) (b : Bus) (s : State),
    let c : Instr := if kind = 1 then .loadOk z byte b else if kind = 2 then .loadBad z byte b
      else if kind = 3 then .probeOk z byte b else .echo z byte b
    let zn := s.zone z
    zn.rxBytes = kind :: bs → answerLength kind = some (bs.length + 2) →
    (answerCheck (kind :: bs ++ [byte]) = true → ((kind = 1 ∨ kind = 2) → zn.sending = none) →
      (kind = 3 → zn.probeMs = none) → (kind = 4 → zn.echo = none) →
        Completes c b s (s.modZone z fun x =>
          { x with rxBytes := [], strayAnswers := min 65535 (x.strayAnswers + 1) })) ∧
    (answerCheck (kind :: bs ++ [byte]) = true → kind = 1 ∨ kind = 2 → ∀ ld, zn.sending = some ld →
      ld.window ≠ answerWindow (kind :: bs ++ [byte]) ∨ (kind = 1 ∧ winLater ld.window s.now = false) →
        Completes c b s (s.modZone z fun x =>
          { x with rxBytes := [], strayAnswers := min 65535 (x.strayAnswers + 1) })) ∧
    (answerCheck (kind :: bs ++ [byte]) = false → zn.quietFailure s.settings.zoneThreshold →
      Completes c b s (s.modZone z fun x => { x with rxBytes := [] }.badlyAnswered)) ∧
    (answerCheck (kind :: bs ++ [byte]) = false → zn.probeBreaks s.settings.zoneThreshold →
      ∃ t, exec c s = .next t ∧ ZoneChanged z { zn with rxBytes := [] }.broken [zn.downRecord z s.now] s t)) ∧
  (∀ (z : Fin 8) (byte : Byte) (bs : List Byte) (e : EchoWait) (b : Bus) (s : State),
    let zn := s.zone z
    let whole := 4 :: bs ++ [byte]
    zn.rxBytes = 4 :: bs → bs.length = 135 → answerCheck whole = true → zn.echo = some e →
    (answerWindow whole = e.window → (whole.drop 7).take 128 = e.body →
      Completes (.echo z byte b) b s (s.modZone z fun x => { x with rxBytes := [], echo := none })) ∧
    (answerWindow whole = e.window → (whole.drop 7).take 128 ≠ e.body →
      Completes (.echo z byte b) b s (s.modZone z fun x =>
        { x with rxBytes := [], echo := none, testMismatches := min 65535 (x.testMismatches + 1) })) ∧
    (answerWindow whole ≠ e.window →
      Completes (.echo z byte b) b s (s.modZone z fun x =>
        { x with rxBytes := [], strayAnswers := min 65535 (x.strayAnswers + 1) })))

/-- LOAD_OK and LOAD_BAD for the load in SENDING, with a correct check and the status held (R102, R105): LOAD-OK before the start
of its window makes it ACKNOWLEDGED; LOAD-BAD counts one error and sends it again, where the link stays LINKED, fewer than two resends have been
made and its window has not started. Both take the answer's status, and a LOAD-BAD whose error reaches the threshold brings the
link DOWN with the load ABANDONED, with its record after that of the status by the model's choice (log 39). PROBE_OK for a probe that waits (R100 to R102): in SYNC and DOWN the first good answer
counts and the second makes the link LINKED, and in LINKED one ends the wait; the answer's status is taken; each entry into
LINKED, with cause PROBES, and each other change of the status, with cause CONTROLLER, offers its record to both ports and raises
ZONE (bit 7) there. In the clauses on one load the link has no other to send. The begin of a send (R104): where a LOAD-OK ends a transfer, where
a LOAD-BAD ends it with the load ABANDONED, and on entry to LINKED, the oldest load in AWAITING whose window has not started
becomes SENDING in that event, its frame is sent, and the other loads stand. -/
def Obligations.ControllerAnswers : Prop :=
  (∀ (z : Fin 8) (byte status : Byte) (ld : Load) (b : Bus) (s : State),
    let zn := s.zone z
    let answer := fun kind : Byte => [kind, BitVec.ofNat 8 z.val] ++ beBytes 4 ld.window.toNat ++ [status]
    let check := fun kind : Byte => crc16Bytes (answer kind)
    zn.held = [ld] → ld.xfer = .sending → status.toNat = (if zn.onAir then 1 else 0) →
    (zn.rxBytes = answer 1 ++ (check 1).take 1 → byte = (check 1).getD 1 0 → winLater ld.window s.now = true →
      Completes (.loadOk z byte b) b s (s.modZone z fun x =>
        { x with rxBytes := [], held := [{ ld with xfer := .acknowledged }] })) ∧
    (zn.rxBytes = answer 2 ++ (check 2).take 1 → byte = (check 2).getD 1 0 → zn.link = .linked → ld.sends < 3 →
      winLater ld.window s.now = true → min 255 (zn.errorsSweep + 1) < s.settings.zoneThreshold →
      Completes (.loadBad z byte b) b s (s.modZone z fun x =>
        { x with rxBytes := [], held := [{ ld with sends := ld.sends + 1 }], sendMs := s.ms,
                 errorsSweep := min 255 (x.errorsSweep + 1), errorTotal := min 65535 (x.errorTotal + 1),
                 resends := min 65535 (x.resends + 1), lastFrame := loadFrame z ld }))) ∧
  (∀ (z : Fin 8) (byte : Byte) (onAir : Bool) (ld : Load) (b : Bus) (s : State),
    let zn := s.zone z
    let answer := fun kind : Byte => [kind, BitVec.ofNat 8 z.val] ++ beBytes 4 ld.window.toNat ++ [if onAir then 1#8 else 0#8]
    let check := fun kind : Byte => crc16Bytes (answer kind)
    let taken := { zn with rxBytes := [], onAir := onAir }
    let failed := { taken with
      errorsSweep := min 255 (zn.errorsSweep + 1), errorTotal := min 65535 (zn.errorTotal + 1) }
    let status : List StateChange := if onAir = zn.onAir then [] else
      [{ source := .zone z, old := 2, new := 2, cause := .controller, inService := zn.inService, onAir := onAir,
         window := s.now }]
    let again := ld.sends < 3 ∧ winLater ld.window s.now = true
    zn.held = [ld] → ld.xfer = .sending → zn.link = .linked →
    (zn.rxBytes = answer 1 ++ (check 1).take 1 → byte = (check 1).getD 1 0 → winLater ld.window s.now = true →
      ∃ t, exec (.loadOk z byte b) s = .next t ∧
        ZoneChanged z { taken with held := [{ ld with xfer := .acknowledged }] } status s t) ∧
    (zn.rxBytes = answer 2 ++ (check 2).take 1 → byte = (check 2).getD 1 0 →
      ∃ t, exec (.loadBad z byte b) s = .next t ∧
      (min 255 (zn.errorsSweep + 1) < s.settings.zoneThreshold →
        (again → ZoneChanged z
          { failed with held := [{ ld with sends := ld.sends + 1 }], sendMs := s.ms,
                        resends := min 65535 (zn.resends + 1), lastFrame := loadFrame z ld } status s t) ∧
        (¬ again → ZoneChanged z { failed with held := [{ ld with xfer := .abandoned }] } status s t)) ∧
      (s.settings.zoneThreshold ≤ min 255 (zn.errorsSweep + 1) →
        ZoneChanged z { failed with link := .down, held := [{ ld with xfer := .abandoned }] }
          (status ++ [taken.downRecord z s.now]) s t))) ∧
  (∀ (z : Fin 8) (byte : Byte) (window : Win) (onAir : Bool) (b : Bus) (s : State),
    let zn := s.zone z
    let answer := [3, BitVec.ofNat 8 z.val] ++ beBytes 4 window.toNat ++ [if onAir then 1#8 else 0#8]
    zn.rxBytes = answer ++ (crc16Bytes answer).take 1 → byte = (crc16Bytes answer).getD 1 0 → zn.probeMs.isSome = true →
    zn.held = [] →
    let counted := fun x : Zone => { x with
      rxBytes := [], probeMs := none, goodProbes := if x.link = .linked then x.goodProbes else 1 }
    let record : Nat → ChangeCause → StateChange := fun new cause =>
      { source := .zone z, old := zn.link.toNat, new := new, cause := cause, inService := zn.inService, onAir := onAir,
        window := s.now }
    (((zn.link = .sync ∨ zn.link = .down) ∧ zn.goodProbes = 0) ∨ zn.link = .linked →
      (onAir = zn.onAir → Completes (.probeOk z byte b) b s (s.modZone z counted)) ∧
      (onAir ≠ zn.onAir → ∃ t, exec (.probeOk z byte b) s = .next t ∧ t.zone z = { counted zn with onAir := onAir } ∧
        (∀ y, y ≠ z → t.zone y = s.zone y) ∧ RecordOffered (record zn.link.toNat .controller) s t ∧
        ∀ p, (t.port p).notice.getLsbD 7 = true)) ∧
    (zn.link = .sync ∨ zn.link = .down → 1 ≤ zn.goodProbes → ∃ t, exec (.probeOk z byte b) s = .next t ∧
      t.zone z = { zn with rxBytes := [], probeMs := none, goodProbes := 0, link := .linked, onAir := onAir } ∧
      (∀ y, y ≠ z → t.zone y = s.zone y) ∧ RecordOffered (record 2 .probes) s t ∧
      ∀ p, (t.port p).notice.getLsbD 7 = true)) ∧
  (∀ (z : Fin 8) (byte status : Byte) (ld next : Load) (held' : List Load) (b : Bus) (s : State),
    let zn := s.zone z
    let answer := fun kind : Byte => [kind, BitVec.ofNat 8 z.val] ++ beBytes 4 ld.window.toNat ++ [status]
    let check := fun kind : Byte => crc16Bytes (answer kind)
    let ends := fun x : Xfer => zn.held.map fun y => if y.window = ld.window then { y with xfer := x } else y
    (zn.held.map Load.window).Nodup → ld ∈ zn.held → ld.xfer = .sending →
    (∀ x ∈ zn.held, x.window ≠ ld.window → x.xfer ≠ .sending) → zn.link = .linked → zn.probeMs = none →
    status.toNat = (if zn.onAir then 1 else 0) →
    (zn.rxBytes = answer 1 ++ (check 1).take 1 → byte = (check 1).getD 1 0 → winLater ld.window s.now = true →
      BeginsSend s.now (ends .acknowledged) next held' →
      Completes (.loadOk z byte b) b s (s.modZone z fun x =>
        { x with rxBytes := [], held := held', sendMs := s.ms, lastFrame := loadFrame z next })) ∧
    (zn.rxBytes = answer 2 ++ (check 2).take 1 → byte = (check 2).getD 1 0 →
      3 ≤ ld.sends ∨ winLater ld.window s.now = false → min 255 (zn.errorsSweep + 1) < s.settings.zoneThreshold →
      BeginsSend s.now (ends .abandoned) next held' →
      Completes (.loadBad z byte b) b s (s.modZone z fun x =>
        { x with rxBytes := [], held := held', sendMs := s.ms, lastFrame := loadFrame z next,
                 errorsSweep := min 255 (x.errorsSweep + 1), errorTotal := min 65535 (x.errorTotal + 1) }))) ∧
  (∀ (z : Fin 8) (byte : Byte) (window : Win) (onAir : Bool) (next : Load) (held' : List Load) (b : Bus) (s : State),
    let zn := s.zone z
    let answer := [3, BitVec.ofNat 8 z.val] ++ beBytes 4 window.toNat ++ [if onAir then 1#8 else 0#8]
    zn.rxBytes = answer ++ (crc16Bytes answer).take 1 → byte = (crc16Bytes answer).getD 1 0 → zn.probeMs.isSome = true →
    zn.link = .sync ∨ zn.link = .down → 1 ≤ zn.goodProbes → (zn.held.map Load.window).Nodup →
    (∀ x ∈ zn.held, x.xfer ≠ .sending) → BeginsSend s.now zn.held next held' →
      ∃ t, exec (.probeOk z byte b) s = .next t ∧ (∀ y, y ≠ z → t.zone y = s.zone y) ∧
        t.zone z = { zn with
          rxBytes := [], probeMs := none, goodProbes := 0, link := .linked, onAir := onAir, held := held',
          sendMs := s.ms, lastFrame := loadFrame z next })

/-- Bytes and faults of an answer in assembly (R103): the first byte of a known kind begins an answer, a further one that
does not complete it is taken; an unknown kind byte, a framing failure and 250 ms without completion discard the bytes, fail the
probe that is awaited, are a test mismatch that ends the wait for an echo, and with neither awaited do nothing else. The 250 ms
timeouts (R101, R105, R107, R108, R114): of a probe in SYNC and DOWN, good probes returns to 0 and the error total rises; of one
in LINKED, one error; of an echo, one test mismatch; of a load in SENDING, the only load of a link that stays LINKED, one error,
and before its third send and the start of its window the load is sent again, and else is ABANDONED; and of one whose error
reaches the threshold, the link becomes DOWN with the load ABANDONED, and ZONE (bit 7) and the record with cause ERRORS at both
ports. So it does at a failed probe, by any of these, whose error reaches the threshold. That a timeout carries the time to
its moment is the model's choice (log 4). -/
def Obligations.AnswersAndTimeouts : Prop :=
  (∀ (z : Fin 8) (byte kind : Byte) (bs : List Byte) (b : Bus) (s : State),
    let zn := s.zone z
    (zn.rxBytes = [] → byte = 1 ∨ byte = 2 ∨ byte = 3 ∨ byte = 4 →
      Completes (.controllerAnswerByte z byte b) b s (s.modZone z fun x => { x with rxBytes := [byte], rxMs := s.ms })) ∧
    (zn.rxBytes = kind :: bs → answerLength kind ≠ some (bs.length + 2) →
      Completes (.controllerAnswerByte z byte b) b s (s.modZone z fun x => { x with rxBytes := kind :: bs ++ [byte] })) ∧
    (zn.quietFailure s.settings.zoneThreshold →
      (zn.rxBytes = [] → byte ≠ 1 → byte ≠ 2 → byte ≠ 3 → byte ≠ 4 →
        Completes (.unknownAnswerKind z byte b) b s (s.modZone z Zone.badlyAnswered)) ∧
      (zn.rxBytes ≠ [] →
        Completes (.zoneLinkFramingFailure z b) b s (s.modZone z fun x => { x with rxBytes := [] }.badlyAnswered) ∧
        Completes (.answerAssemblyTimeout z b) b s
          ({ s with ms := max s.ms (zn.rxMs + 250), clock.timer := s.clock.timer + (zn.rxMs + 250 - s.ms) }.modZone z
            fun x => { x with rxBytes := [] }.badlyAnswered))) ∧
    (zn.probeBreaks s.settings.zoneThreshold →
      let breaks := fun (c : Instr) (e : State) =>
        ∃ t, exec c s = .next t ∧ ZoneChanged z { zn with rxBytes := [] }.broken [zn.downRecord z s.now] e t
      (zn.rxBytes = [] → byte ≠ 1 → byte ≠ 2 → byte ≠ 3 → byte ≠ 4 → breaks (.unknownAnswerKind z byte b) s) ∧
      (zn.rxBytes ≠ [] → breaks (.zoneLinkFramingFailure z b) s ∧
        breaks (.answerAssemblyTimeout z b)
          { s with ms := max s.ms (zn.rxMs + 250), clock.timer := s.clock.timer + (zn.rxMs + 250 - s.ms) }))) ∧
  (∀ (z : Fin 8) (b : Bus) (s : State),
    let zn := s.zone z
    let late := fun at0 : Nat => { s with ms := max s.ms (at0 + 250), clock.timer := s.clock.timer + (at0 + 250 - s.ms) }
    (∀ at0, zn.probeMs = some at0 → zn.link = .sync ∨ zn.link = .down →
      Completes (.probeTimeout z b) b s ((late at0).modZone z fun x =>
        { x with probeMs := none, goodProbes := 0, errorTotal := min 65535 (x.errorTotal + 1) })) ∧
    (∀ at0, zn.probeMs = some at0 → zn.link = .linked → zn.held = [] →
      min 255 (zn.errorsSweep + 1) < s.settings.zoneThreshold →
      Completes (.probeTimeout z b) b s ((late at0).modZone z fun x =>
        { x with probeMs := none, errorsSweep := min 255 (x.errorsSweep + 1),
                 errorTotal := min 65535 (x.errorTotal + 1) })) ∧
    (∀ at0, zn.probeMs = some at0 → zn.probeBreaks s.settings.zoneThreshold →
      ∃ t, exec (.probeTimeout z b) s = .next t ∧ ZoneChanged z zn.broken [zn.downRecord z s.now] (late at0) t) ∧
    (∀ e, zn.echo = some e →
      Completes (.echoTimeout z b) b s ((late e.sentMs).modZone z fun x =>
        { x with echo := none, testMismatches := min 65535 (x.testMismatches + 1) })) ∧
    (∀ ld, zn.held = [ld] → ld.xfer = .sending → zn.link = .linked →
      (ld.sends < 3 → winLater ld.window s.now = true → min 255 (zn.errorsSweep + 1) < s.settings.zoneThreshold →
        Completes (.loadAnswerTimeout z b) b s ((late zn.sendMs).modZone z fun x =>
          { x with held := [{ ld with sends := ld.sends + 1 }], sendMs := max s.ms (zn.sendMs + 250),
                   errorsSweep := min 255 (x.errorsSweep + 1), errorTotal := min 65535 (x.errorTotal + 1),
                   resends := min 65535 (x.resends + 1), lastFrame := loadFrame z ld })) ∧
      (3 ≤ ld.sends ∨ winLater ld.window s.now = false →
        min 255 (zn.errorsSweep + 1) < s.settings.zoneThreshold →
        Completes (.loadAnswerTimeout z b) b s ((late zn.sendMs).modZone z fun x =>
          { x with held := [{ ld with xfer := .abandoned }], errorsSweep := min 255 (x.errorsSweep + 1),
                   errorTotal := min 65535 (x.errorTotal + 1) })) ∧
      (s.settings.zoneThreshold ≤ min 255 (zn.errorsSweep + 1) → ∃ t, exec (.loadAnswerTimeout z b) s = .next t ∧
        ZoneChanged z
          { zn with link := .down, held := [{ ld with xfer := .abandoned }],
                    errorsSweep := min 255 (zn.errorsSweep + 1), errorTotal := min 65535 (zn.errorTotal + 1) }
          [zn.downRecord z s.now] (late zn.sendMs) t)))

/-! ### Slips (chapters 1, 3, 6, 10 and 11) -/

/-- The SUBMIT slip (R57 to R59, R63): an unknown kind is BAD-KIND and a text over its kind's limit TOO-LONG; another is prepared
as a line's is (R54), and a submission that passes the acceptance checks is ACCEPTED with its serial, sequence, estimate, due window and expiry window, and the
flags CLAMPED (an expiry override below 96 or above the plan's expiry windows, R58), ALTERED and CLASS-LIMITED; one that fails a check has no effect and is answered with that check's code (the
flags of such an answer, and the six zero bytes before a NO-CREDIT estimate, are the model's choices, log 28, log 34). -/
def Obligations.SubmitSlips : Prop :=
  ∀ (p : Port) (ix : Fin 64) (q : SubmitReq) (b : Bus) (s : State), Taking p ix b s → s.part = .ready →
    let r0 := s.reached p ix
    (2 < q.kind.toNat → Answers (.submit p ix q b) p ix b s r0 { code := .badKind }) ∧
    ((q.kind = 1 ∧ 40 < q.text.length) ∨ (q.kind = 2 ∧ 240 < q.text.length) →
      Answers (.submit p ix q b) p ix b s r0 { code := .tooLong }) ∧
    let clamped := ((Assoc.get? q.number.toNat s.numbers).bind s.sub?).any fun x =>
      decide (q.expiry ≠ 0 ∧ (q.expiry.toNat < 96 ∨ (s.plan x.plan).expiry < q.expiry.toNat))
    (∀ d, Degraded q.cls q.kind q.text d → d.truncated = false →
      let changed := (if clamped then 1#16 else 0#16) ||| (if d.altered then 2#16 else 0#16)
      let r : Submission :=
        { origin := .port p, clientRef := q.clientRef, number := q.number.toNat, expiry := q.expiry.toNat, body := d }
      (∀ m, checkSubmission r s = .ok m →
        Answers (.submit p ix q b) p ix b s (acceptMessage m r0)
          { code := .accepted, flags := changed ||| (if m.cls ≠ d.cls then 4#16 else 0#16),
            fields := leBytes 4 m.serial ++ [BitVec.ofNat 8 m.seq, 0] ++ leBytes 4 (m.estimate.getD 0) ++
              leBytes 4 (m.due.getD 0).toNat ++ leBytes 4 m.expiry.toNat }) ∧
      (∀ e, checkSubmission r s = .error e →
        Answers (.submit p ix q b) p ix b s r0
          { code := (match e with
              | .unknown => .unknown
              | .suspended => .suspended
              | .kindNotAllowed => .kindNotAllowed
              | .queueFull => .queueFull
              | .noRoom => .storeFull
              | .noCredit _ => .noCredit),
            flags := changed,
            fields := (match e with
              | .noCredit x => [0, 0, 0, 0, 0, 0] ++ leBytes 4 x
              | .unknown => []
              | .suspended => []
              | .kindNotAllowed => []
              | .queueFull => []
              | .noRoom => []) }))

/-- The acceptance checks in their order and what an acceptance creates (R25, R29 to R31, R58 to R62): a prepaid account's
estimate is the charge with allowance 0, no extra zone-sends and disposition DELIVERED, of the message's cells and class, the
current band, and the own rates or the plan's (R161). The new message is WAITING in round 1 with no attempt, deferral, backoff
or zone counted, due at the first wake window at or after now + 2, a one-way one with the plan's repeats remaining, with a
serial that no record holds, the next one where that is free, and a sequence that no queued message holds; the room, the queue,
both calendars and committed follow. -/
def Obligations.Acceptance : Prop :=
  ∀ (r : Submission) (s : State),
    (Assoc.get? r.number s.numbers = none → checkSubmission r s = .error .unknown) ∧
    (∀ slot sub, Assoc.get? r.number s.numbers = some slot → s.sub? slot = some sub →
      let pl := s.plan sub.plan
      let allowed := match r.body.kind with
        | .tone => pl.allowTone
        | .numeric => pl.allowNumeric
        | .text => pl.allowText
      let blocks := (r.body.text.length + 31) / 32
      let cells := match r.body.kind with
        | .tone => 2
        | .numeric => 2 + (r.body.text.length + 9) / 10
        | .text => 2 + (r.body.text.length + 4) / 5
      let estimate := chargeOf
        { cells := cells, allowance := 0, base := if sub.override then sub.ownBase else pl.base,
          cell := if sub.override then sub.ownCell else pl.cell, band := pl.bands[s.band],
          surcharge := (match r.body.cls with
            | .urgent => pl.surcharges[0]
            | .high => pl.surcharges[1]
            | .normal => pl.surcharges[2]
            | .routine => pl.surcharges[3]),
          search := pl.search, extra := 0, transmitted := true, delivered := true, undelivered := pl.undelivered,
          cap := pl.cap }
      let short := pl.kind = .prepaid ∧ sub.account.balance - sub.account.committed - estimate < pl.floor
      (sub.state = .suspended → checkSubmission r s = .error .suspended) ∧
      (sub.state = .active → allowed = false → checkSubmission r s = .error .kindNotAllowed) ∧
      (sub.state = .active → allowed = true → pl.queueLimit ≤ sub.queue.length →
        checkSubmission r s = .error .queueFull) ∧
      (sub.state = .active → allowed = true → sub.queue.length < pl.queueLimit →
        (s.freePlaces = 0 ∨ s.freeBlocks < blocks → checkSubmission r s = .error .noRoom) ∧
        (1 ≤ s.freePlaces → blocks ≤ s.freeBlocks → short → checkSubmission r s = .error (.noCredit estimate)) ∧
        (1 ≤ s.freePlaces → blocks ≤ s.freeBlocks → ¬ short → ∃ m, checkSubmission r s = .ok m ∧
          m.slot = slot ∧ m.origin = r.origin ∧ m.clientRef = r.clientRef ∧ m.kind = r.body.kind ∧ m.text = r.body.text ∧
          m.length = r.body.text.length ∧ m.cells = cells ∧ m.state = .waiting ∧ m.round = 1 ∧ m.attempts = 0 ∧
          m.backoff = 0 ∧ m.deferrals = 0 ∧ m.attemptZones = 0 ∧ m.sentZones = 0 ∧ m.firstZones = 0 ∧ m.zoneSends = 0 ∧
          m.transmitted = false ∧ m.repeats = (if sub.twoWay then 0 else pl.repeatCount) ∧ m.deadline = none ∧
          m.disposition = none ∧ m.charge = none ∧ m.allowanceUsed = none ∧ m.owesOutcome = false ∧
          m.owesDelivery = false ∧ m.finalWindow = none ∧
          m.due = some (sub.wakeAt (s.now + 2)) ∧ m.accepted = s.now ∧ m.band = s.band ∧
          m.expiry = s.now + BitVec.ofNat 32
            (if r.expiry = 0 then pl.expiry else if r.expiry < 96 then 96 else min r.expiry pl.expiry) ∧
          m.cls = (if pl.kind = .postpaid ∧ sub.account.postpaid = .capped then .routine else r.body.cls) ∧
          m.origCls = m.cls ∧ m.estimate = (if pl.kind = .prepaid then some estimate else none) ∧
          (StoreRoom s → s.msg? m.serial = none) ∧ (s.msg? s.nextSerial = none → m.serial = s.nextSerial) ∧
          ((∀ x ∈ s.queueMsgs slot, x.seq ≠ sub.nextSeq) → m.seq = sub.nextSeq) ∧
          ((s.queueMsgs slot).length < 64 → ∀ x ∈ s.queueMsgs slot, x.seq ≠ m.seq) ∧
          let t := acceptMessage m s
          t.msg? m.serial = some m ∧ (∀ x, x ≠ m.serial → t.msg? x = s.msg? x) ∧
          t.freePlaces = s.freePlaces - 1 ∧ t.freeBlocks = s.freeBlocks - blocks ∧
          t.nextSerial = (if m.serial = 4294967295 then 1 else m.serial + 1) ∧
          t.sub? slot = some { sub with
            queue := sub.queue ++ [m.serial], nextSeq := (m.seq + 1) % 64,
            account := { sub.account with committed := sub.account.committed + m.estimate.getD 0 } } ∧
          calList (sub.wakeAt (s.now + 2)) t.dueCal = calList (sub.wakeAt (s.now + 2)) s.dueCal ++ [m.serial] ∧
          calList m.expiry t.expiryCal = calList m.expiry s.expiryCal ++ [m.serial])))

/-- The CANCEL and RELEASE slips (R65, R66, R148): from the holder of control or the message's origin, CANCEL makes a
non-final message FINAL CANCELLED, one LOADED in an acknowledged load counting as transmitted, and RELEASE puts a HELD
message into a new round, or in round 4 makes it FINAL UNDELIVERABLE; the other cases are UNKNOWN, NOT-OWNER, TOO-LATE and
NOT-HELD, with no effect. In the answers the codes 1 and 0 of the transmitted flag are presumed (log 11), and the codes of the
message states and the order of the fields are the model's reading (log 15). -/
def Obligations.CancelAndRelease : Prop :=
  ∀ (p : Port) (ix : Fin 64) (n : Word) (b : Bus) (s : State), Taking p ix b s → s.part = .ready →
    let r0 := s.reached p ix
    let cancel := fun (e : State) (a : Answer) => Answers (.cancel p ix n b) p ix b s e a
    let release := fun (e : State) (a : Answer) => Answers (.release p ix n b) p ix b s e a
    (s.msg? n.toNat = none → cancel r0 { code := .unknown } ∧ release r0 { code := .unknown }) ∧
    (∀ m, s.msg? n.toNat = some m →
      let may := s.control.holder = some p ∨ m.origin = .port p
      (¬ may → cancel r0 { code := .notOwner } ∧ release r0 { code := .notOwner }) ∧
      (may → m.state = .final → cancel r0 { code := .tooLate } ∧ release r0 { code := .tooLate }) ∧
      (may → m.state ≠ .final → m.state ≠ .held → release r0 { code := .notHeld, fields := [BitVec.ofNat 8 m.state.toNat] }) ∧
      (∀ sub, s.sub? m.slot = some sub → may → m.state ≠ .final →
        let onAir := m.state = .loaded ∧ ∃ z : Fin 8, ∃ ld ∈ (s.zone z).held, m.due = some ld.window ∧
          ld.xfer = .acknowledged ∧ ld.items.any (LoadItem.isMessage n.toNat) = true
        let answer := fun x : Message =>
          ({ code := .done, fields := [BitVec.ofNat 8 m.state.toNat, 3] ++
              leBytes 4 (chargeOf (chargeInput sub (s.plan sub.plan) x .cancelled)) ++
              [if x.transmitted then 1 else 0] } : Answer)
        (¬ onAir → cancel (finalize n.toNat .cancelled r0) (answer m)) ∧
        (onAir → cancel (finalize n.toNat .cancelled (r0.modMsg n.toNat fun x => { x with transmitted := true }))
          (answer { m with transmitted := true }))) ∧
      (∀ sub, s.sub? m.slot = some sub → may → m.state = .held →
        let w := sub.wakeAt (s.now + 2)
        (m.round < 4 → ∃ e, release e { code := .done, fields := [BitVec.ofNat 8 (m.round + 1)] ++ leBytes 4 w.toNat } ∧
          e.msg? n.toNat = some { m with
            state := .waiting, round := m.round + 1, attempts := 0, backoff := 0, due := some w } ∧
          e.retryCounts = { s.retryCounts with releases := min 65535 (s.retryCounts.releases + 1) } ∧
          { e with msgs := s.msgs, dueCal := s.dueCal, retryCounts := s.retryCounts } = r0) ∧
        (4 ≤ m.round → ∃ e, release e { code := .lastRound } ∧
          e.retryCounts.exhaustions = min 65535 (s.retryCounts.exhaustions + 1) ∧
          ∃ f, e.msg? n.toNat = some f ∧ f.state = .final ∧ f.disposition = some .undeliverable)))

/-- The slips that only read change nothing but the scan and the slip itself (R23, R56, R68, R99, R169, R171, R189): QUERY,
SUBSCRIBER READ, TARIFF READ, LINE READ, ZONE QUERY, SETTINGS READ and PERIOD STATUS, all but SUBSCRIBER READ from either
port. QUERY of a serial that no record holds is UNKNOWN, and a number of no plan, line or zone is BAD-PLAN, BAD-LINE or
BAD-ZONE. The order of the fields they report, and the coding of a message's reports pending, are the model's choices (log 15,
log 16, log 35). -/
def Obligations.ReadsChangeNothing : Prop :=
  ∀ (p : Port) (ix : Fin 64) (b : Bus) (s : State), Taking p ix b s → s.part = .ready →
    let r0 := s.reached p ix
    (∀ (n : Word) (m : Message), s.msg? n.toNat = some m →
      Answers (.query p ix n b) p ix b s r0 { code := .done, fields := queryFields m }) ∧
    (∀ n : Word, s.msg? n.toNat = none → Answers (.query p ix n b) p ix b s r0 { code := .unknown }) ∧
    (∀ w : Word,
      (16 ≤ w.toNat → Answers (.tariffRead p ix w b) p ix b s r0 { code := .badPlan }) ∧
      (8 ≤ w.toNat → Answers (.lineRead p ix w b) p ix b s r0 { code := .badLine } ∧
        Answers (.zoneQuery p ix w b) p ix b s r0 { code := .badZone })) ∧
    (∀ n slot, Names n slot s → s.control.holder = some p →
      Answers (.subscriberRead p ix n b) p ix b s r0 { code := .done, fields := readFields slot s }) ∧
    (∀ (k : Fin 16) (w : Word), w.toNat = k.val →
      Answers (.tariffRead p ix w b) p ix b s r0 { code := .done, fields := (s.plan k).bytes }) ∧
    (∀ (l : Fin 8) (w : Word), w.toNat = l.val →
      Answers (.lineRead p ix w b) p ix b s r0 { code := .done, fields := lineReadFields (s.line l) } ∧
      Answers (.zoneQuery p ix w b) p ix b s r0 { code := .done, fields := zoneQueryFields (s.zone l) }) ∧
    Answers (.settingsRead p ix b) p ix b s r0 { code := .done, fields := s.settings.bytes } ∧
    Answers (.periodStatus p ix b) p ix b s r0 { code := .done, fields := periodFields s }

/-- SUBSCRIBER ADD (R13, R14): the checks in their order, each refusal without effect; an ADD that passes writes an ACTIVE
subscriber with home window and wake class clamped, no tag, an empty queue and a fresh account of its plan, and its
directory and pager map entries. -/
def Obligations.SubscriberAdd : Prop :=
  ∀ (p : Port) (ix : Fin 64) (r : AddReq) (b : Bus) (s : State), Taking p ix b s → s.part = .ready →
    s.control.holder = some p →
    let r0 := s.reached p ix
    let refused := fun c : Code => Answers (.subscriberAdd p ix r b) p ix b s r0 { code := c }
    let n := r.slot.toNat
    (16383 < n → refused .badSlot) ∧
    (n ≤ 16383 → (s.sub? n).isSome = true → refused .slotInUse) ∧
    (n ≤ 16383 → s.sub? n = none → (s.slot n).finalCount ≠ 0 → refused .slotDraining) ∧
    (n ≤ 16383 → s.sub? n = none → (s.slot n).finalCount = 0 →
      (r.number = 0 ∨ 99999999 < r.number.toNat → refused .badNumber) ∧
      (r.number ≠ 0 → r.number.toNat ≤ 99999999 →
        (r.pager = 0 → refused .badPager) ∧
        (r.pager ≠ 0 →
          ((Assoc.get? r.number.toNat s.numbers).isSome = true → refused .numberInUse) ∧
          (Assoc.get? r.number.toNat s.numbers = none →
            ((Assoc.get? r.pager.toNat s.pagers).isSome = true → refused .pagerInUse) ∧
            (Assoc.get? r.pager.toNat s.pagers = none →
              (r.area = 0 → refused .emptyArea) ∧
              (r.area ≠ 0 → 15 < r.plan.toNat → refused .badPlan) ∧
              (∀ (plan : Fin 16) (wake : Fin 4), r.area ≠ 0 → r.plan.toNat = plan.val → wake.val = min 3 r.wake.toNat →
                Answers (.subscriberAdd p ix r b) p ix b s
                  { r0 with
                    slots := Assoc.put n
                      { sub := some
                          { state := .active, number := r.number.toNat, pager := r.pager.toNat, plan := plan,
                            twoWay := r.twoWay, home := min 95 r.home.toNat, wake := wake, area := r.area,
                            lastKnown := none, tag := none, tagState := .none, offers := 0, pending := none,
                            lastReply := none, nextSeq := 0, queue := [], override := r.override,
                            ownBase := r.ownBase.toNat, ownCell := r.ownCell.toNat,
                            account :=
                              { balance := 0, committed := 0, usage := 0, allowance := (s.plan plan).allowance,
                                period := s.globalPeriod, periodCharge := 0, periodCount := 0, periodAllowance := 0,
                                postpaid := .opened } },
                        finalCount := 0 } s.slots,
                    numbers := Assoc.put r.number.toNat n s.numbers,
                    pagers := Assoc.put r.pager.toNat n s.pagers }
                  { code := .done, flags := if 95 < r.home.toNat ∨ 3 < r.wake.toNat then 1 else 0 }))))))

/-- SUBSCRIBER MODIFY (R15 to R19, R96). Its checks in their order, each refusal without effect: BAD-NUMBER, BAD-PAGER,
NUMBER-IN-USE, PAGER-IN-USE, EMPTY-AREA, BAD-PLAN, and IN-FLIGHT for a pager number or two-way flag with another value while a
message is LOADED or SENT. Of the pager number or two-way flag to another value, the change, with the last-known zones absent
(for a two-way flag of yes they stand), the tag release of a tag held with its cool-down, the pending control item dropped and a
withdrawn tag's cool-down entry given its end; of the schedule alone, home window, wake class or both, every WAITING and
RETRY-WAIT message of the queue is due at the first new wake window at or after now + 2 with backoff 0, and a pending control
item is due there, unplaced; of number, area, plan and rates, the record (the last-known zones within the new area) and the
directory. A changed schedule or area takes a placed control item out of the loads of its due window that await transfer. A value
equal to the current one is no change. That a changed schedule does so also where the item is due in that window already is the
model's choice (log 31), and so is that with a changed area the item keeps its due window, unplaced (log 37). The DONE
answer reports the record afterwards; that it also has the offer wait deadline is the model's choice (log 49). -/
def Obligations.SubscriberModify : Prop :=
  ∀ (p : Port) (ix : Fin 64) (n : SubName) (r : ModReq) (slot : Nat) (x : Subscriber) (b : Bus) (s : State),
    Taking p ix b s → s.part = .ready → s.control.holder = some p → Names n slot s → s.sub? slot = some x →
    let r0 := s.reached p ix
    let none1 : ModReq := { number := none, pager := none, twoWay := none, plan := none, home := none, wake := none,
                            area := none, override := none, rates := none }
    let done := fun (e : State) => ∃ flags, Answers (.subscriberModify p ix n r b) p ix b s e
      { code := .done, flags := flags, fields := readFields slot e }
    let coolEnd := s.now + BitVec.ofNat 32 s.settings.ackDelay + BitVec.ofNat 32 s.settings.mergeSpan
    let withdrawn := s.coolDown.map fun e : Nat × Option Win =>
      if ∃ pd, x.pending = some pd ∧ pd.kind = .withdraw ∧ pd.tag = e.1 then (e.1, some coolEnd) else e
    let unplaced := fun ld : Load => match x.pending with
      | some pd =>
        let mine := LoadItem.isControl pd.kind slot pd.tag
        if pd.placed = true ∧ ld.window = pd.due ∧ ld.xfer = .awaiting then
          { ld with items := ld.items.filter fun it => !mine it,
                    cells := ld.cells - ((ld.items.filter mine).map LoadItem.cells).sum,
                    controls := ld.controls - ld.items.countP mine }
        else ld
      | none => ld
    let refused := fun c : Code => Answers (.subscriberModify p ix n r b) p ix b s r0 { code := c }
    let taken := fun (v : Nat) (l : List (Nat × Nat)) => ∃ k, Assoc.get? v l = some k ∧ k ≠ slot
    let badNumber := ∃ v, r.number = some v ∧ (v = 0 ∨ 99999999 < v.toNat)
    let numberInUse := ∃ v, r.number = some v ∧ taken v.toNat s.numbers
    let pagerInUse := ∃ v, r.pager = some v ∧ taken v.toNat s.pagers
    let badPlan := ∃ v, r.plan = some v ∧ 15 < v.toNat
    let replaced := (∃ v, r.pager = some v ∧ v.toNat ≠ x.pager) ∨ (∃ v, r.twoWay = some v ∧ v ≠ x.twoWay)
    (badNumber → refused .badNumber) ∧
    (¬ badNumber →
      (r.pager = some 0 → refused .badPager) ∧
      (r.pager ≠ some 0 →
        (numberInUse → refused .numberInUse) ∧
        (¬ numberInUse →
          (pagerInUse → refused .pagerInUse) ∧
          (¬ pagerInUse →
            (r.area = some 0 → refused .emptyArea) ∧
            (r.area ≠ some 0 → badPlan → refused .badPlan) ∧
            (r.area ≠ some 0 → ¬ badPlan → replaced → s.inFlight slot = true → refused .inFlight))))) ∧
    (∀ v : BitVec 24, r = { none1 with pager := some v } → v ≠ 0 → Assoc.get? v.toNat s.pagers = none → v.toNat ≠ x.pager →
      (s.inFlight slot = false → ∃ e, done e ∧ Assoc.get? v.toNat e.pagers = some slot ∧
        Assoc.get? x.pager e.pagers = none ∧ e.msgs = s.msgs ∧ e.dueCal = s.dueCal ∧
        (∀ tag, x.tag = some tag → x.pending = none →
          e.sub? slot = some { x with
            pager := v.toNat, lastKnown := none, lastReply := none, tag := none, tagState := .none, offers := 0 } ∧
          Assoc.get? tag e.tags = none ∧ e.coolDown = s.coolDown ++ [(tag, some coolEnd)]) ∧
        (x.tag = none → e.sub? slot = some { x with
            pager := v.toNat, lastKnown := none, lastReply := none, pending := none, offers := 0 } ∧
          e.tags = s.tags ∧ e.coolDown = withdrawn))) ∧
    (∀ v : Bool, r = { none1 with twoWay := some v } →
      (v ≠ x.twoWay → s.inFlight slot = false → ∃ e, done e ∧ e.pagers = s.pagers ∧ e.msgs = s.msgs ∧
        e.dueCal = s.dueCal ∧
        (∀ tag, x.tag = some tag →
          e.sub? slot = some { x with
            twoWay := v, lastKnown := if v then x.lastKnown else none, tag := none, tagState := .none, offers := 0,
            pending := none } ∧
          Assoc.get? tag e.tags = none ∧ ((tag, some coolEnd) ∈ e.coolDown) ∧ (∀ w ∈ e.offerWait, w.slot ≠ slot)) ∧
        (x.tag = none →
          e.sub? slot = some { x with
            twoWay := v, lastKnown := if v then x.lastKnown else none, offers := 0, pending := none } ∧
          e.tags = s.tags ∧ e.coolDown = withdrawn)) ∧
      (v = x.twoWay → ∃ e, done e ∧ e.sub? slot = some x ∧ (∀ k, k ≠ slot → e.slot k = s.slot k) ∧
        { e with slots := s.slots } = r0)) ∧
    (∀ (home wake : Option Byte) (h : Nat) (c : Fin 4), r = { none1 with home := home, wake := wake } →
      h = (match home with
        | some v => min 95 v.toNat
        | none => x.home) →
      c.val = (match wake with
        | some v => min 3 v.toNat
        | none => x.wake.val) →
      let w := firstWake h c (s.now + 2)
      let changed := h ≠ x.home ∨ c ≠ x.wake
      ∃ e, done e ∧
        e.sub? slot = some { x with
          home := h, wake := c,
          pending := x.pending.map fun pd => if changed then { pd with due := w, placed := false } else pd } ∧
        (∀ z, e.zone z = { s.zone z with
          held := if changed then (s.zone z).held.map unplaced else (s.zone z).held }) ∧
        (changed → ∀ serial ∈ x.queue, ∀ m, s.msg? serial = some m →
          (m.state = .waiting ∨ m.state = .retryWait →
            e.msg? serial = some { m with due := some w, backoff := 0 }) ∧
          (m.state ≠ .waiting → m.state ≠ .retryWait → e.msg? serial = some m)) ∧
        (¬ changed → e.msgs = s.msgs ∧ e.dueCal = s.dueCal) ∧
        (∀ serial, serial ∉ x.queue → e.msg? serial = s.msg? serial)) ∧
    (∀ (v : Word) (area : ZoneSet) (plan : Fin 16) (base cell : BitVec 16) (own : Bool),
      r = { none1 with number := some v, area := some area, plan := some (BitVec.ofNat 8 plan.val),
                       override := some own, rates := some (base, cell) } →
      v ≠ 0 → v.toNat ≤ 99999999 → Assoc.get? v.toNat s.numbers = none → v.toNat ≠ x.number → area ≠ 0 →
      ∃ e, done e ∧ Assoc.get? v.toNat e.numbers = some slot ∧ Assoc.get? x.number e.numbers = none ∧
        e.pagers = s.pagers ∧ e.tags = s.tags ∧
        (∀ z, e.zone z = { s.zone z with
          held := if area = x.area then (s.zone z).held else (s.zone z).held.map unplaced }) ∧
        e.sub? slot = some { x with
          pending := x.pending.map fun pd => if area = x.area then pd else { pd with placed := false },
          number := v.toNat, area := area, plan := plan, override := own, ownBase := base.toNat, ownCell := cell.toNat,
          lastKnown := x.lastKnown.bind fun k => if k &&& area = 0 then none else some (k &&& area) })

/-- SUBSCRIBER SUSPEND, RESUME and REMOVE (R20 to R22): SUSPEND and RESUME set the state, and RESUME of a SUSPENDED one makes
its WAITING and RETRY-WAIT messages due at the first wake window at or after now + 2; REMOVE ends every queued message
WITHDRAWN, discards the merge list entries of the slot, releases the tag to cool-down, takes out the directory and pager
map entries and leaves the slot VACANT. -/
def Obligations.SubscriberStates : Prop :=
  ∀ (p : Port) (ix : Fin 64) (n : SubName) (slot : Nat) (x : Subscriber) (b : Bus) (s : State),
    Taking p ix b s → s.part = .ready → s.control.holder = some p → Names n slot s → s.sub? slot = some x →
    let r0 := s.reached p ix
    (∃ e, Answers (.subscriberSuspend p ix n b) p ix b s e { code := .done } ∧
      e.slot slot = { s.slot slot with sub := some { x with state := .suspended } } ∧
      (∀ k, k ≠ slot → e.slot k = s.slot k) ∧ { e with slots := s.slots } = r0) ∧
    (x.state = .active → Answers (.subscriberResume p ix n b) p ix b s r0 { code := .done }) ∧
    (x.state = .suspended → ∃ e, Answers (.subscriberResume p ix n b) p ix b s e { code := .done } ∧
      e.sub? slot = some { x with state := .active } ∧
      (∀ serial ∈ x.queue, ∀ m, s.msg? serial = some m → m.state = .waiting ∨ m.state = .retryWait →
        e.msg? serial = some { m with due := some (x.wakeAt (s.now + 2)), backoff := 0 }) ∧
      (∀ serial, serial ∉ x.queue → e.msg? serial = s.msg? serial)) ∧
    (∃ e, Answers (.subscriberRemove p ix n b) p ix b s e { code := .done } ∧ e.sub? slot = none ∧
      Assoc.get? x.number e.numbers = none ∧ Assoc.get? x.pager e.pagers = none ∧
      (∀ m ∈ e.merge, m.slot ≠ slot) ∧
      (∀ tag, x.tag = some tag → Assoc.get? tag e.tags = none ∧
        (tag, some (s.now + BitVec.ofNat 32 s.settings.ackDelay + BitVec.ofNat 32 s.settings.mergeSpan)) ∈ e.coolDown) ∧
      (∀ serial ∈ x.queue, ∀ m, s.msg? serial = some m → m.state ≠ .final →
        ∃ f, e.msg? serial = some f ∧ f.state = .final ∧ f.disposition = some .withdrawn) ∧
      (∀ k, k ≠ slot → (e.sub? k).isSome = (s.sub? k).isSome))

/-- TARIFF SET, SET BAND, CREDIT, PERIOD CLOSE and SETTINGS SET by the holder of control (R166, R168 to R171, R189): every
value outside its range is stored at its nearer end, which sets CLAMPED, and the answer reports the values as stored; a new
plan trims the attempts of its subscribers' queued messages to its retry limit + 1 (R138); CREDIT adds to a prepaid balance,
which saturates with the flag SATURATED, and is NOT-PREPAID of a postpaid plan; PERIOD CLOSE opens the next period, or is
WALK-RUNNING. The codes of account kind, hold and allowed kinds, and that a byte over 1 is the greater code with a clamp, are
the model's reading (log 14), and so is the order of the fields of an answer (log 15). -/
def Obligations.AccountAndSettingsSlips : Prop :=
  ∀ (p : Port) (ix : Fin 64) (b : Bus) (s : State), Taking p ix b s → s.part = .ready → s.control.holder = some p →
    let r0 := s.reached p ix
    (∀ (w : Word) (k : Fin 16) (r : PlanReq), w.toNat = k.val →
      let stored : Plan :=
        { kind := if r.kind = 0 then .prepaid else .postpaid, allowTone := r.allowed.getLsbD 0,
          allowNumeric := r.allowed.getLsbD 1, allowText := r.allowed.getLsbD 2,
          queueLimit := max 1 (min 16 r.queueLimit.toNat), retryLimit := min 7 r.retryLimit.toNat,
          repeatCount := min 3 r.repeatCount.toNat, hold := decide (r.hold ≠ 0), expiry := max 96 r.expiry.toNat,
          allowance := min 1048575 r.allowance.toNat, base := r.base.toNat, cell := r.cell.toNat,
          bands := Vector.ofFn fun i => r.bands[i].toNat,
          surcharges := Vector.ofFn fun i => min 200 r.surcharges[i].toNat, search := r.search.toNat,
          undelivered := min 100 r.undelivered.toNat, cap := min 16777215 r.cap.toNat,
          floor := max (-8388608) (min 8388607 r.floor.toInt), ceiling := r.ceiling.toNat }
      let clamped := decide (1 < r.kind.toNat ∨ r.queueLimit = 0 ∨ 16 < r.queueLimit.toNat ∨ 7 < r.retryLimit.toNat ∨
        3 < r.repeatCount.toNat ∨ 1 < r.hold.toNat ∨ r.expiry.toNat < 96 ∨ 1048575 < r.allowance.toNat ∨
        (∃ i : Fin 4, 200 < r.surcharges[i].toNat) ∨ 100 < r.undelivered.toNat ∨ 16777215 < r.cap.toNat ∨
        r.floor.toInt < -8388608 ∨ 8388607 < r.floor.toInt)
      ∃ e, Answers (.tariffSet p ix w r b) p ix b s e
          { code := .done, flags := if clamped then 1 else 0, fields := stored.bytes } ∧
      (∀ j, e.plan j = if j = k then stored else s.plan j) ∧
      (∀ serial m sub, s.msg? serial = some m → s.sub? m.slot = some sub → e.msg? serial = some
        (if sub.plan = k ∧ m.state ≠ .final then { m with attempts := min m.attempts (min 7 r.retryLimit.toNat + 1) }
         else m)) ∧
      { e with plans := s.plans, msgs := s.msgs } = r0) ∧
    (∀ (v : Byte) (band : Fin 4), band.val = min 3 v.toNat →
      Answers (.setBand p ix v b) p ix b s { r0 with band := band }
        { code := .done, flags := if 3 < v.toNat then 1 else 0, fields := [BitVec.ofNat 8 band.val] }) ∧
    (∀ n slot x amount, Names n slot s → s.sub? slot = some x →
      ((s.plan x.plan).kind = .postpaid →
        Answers (.credit p ix n amount b) p ix b s r0 { code := .notPrepaid }) ∧
      ((s.plan x.plan).kind = .prepaid →
        let sum := x.account.balance + amount.toInt
        let balance := max (-2147483648) (min 2147483647 sum)
        ∃ e, Answers (.credit p ix n amount b) p ix b s e
            { code := .done, flags := if balance = sum then 0 else 8,
              fields := leBytes 4 (balance % 2 ^ 32).toNat ++ leBytes 4 x.account.committed } ∧
        e.slot slot = { s.slot slot with sub := some { x with account := { x.account with balance := balance } } } ∧
        (∀ k, k ≠ slot → e.slot k = s.slot k) ∧ { e with slots := s.slots } = r0)) ∧
    (s.walk.running = true → Answers (.periodClose p ix b) p ix b s r0 { code := .walkRunning }) ∧
    (s.walk.running = false →
      Answers (.periodClose p ix b) p ix b s
        { r0 with globalPeriod := s.globalPeriod + 1,
                  walk := { running := true, position := 0, newPeriod := s.globalPeriod + 1, count := 0 } }
        { code := .started, fields := [s.globalPeriod + 1] }) ∧
    (∀ r : SettingsReq, 1 < r.clockSource.toNat →
      Answers (.settingsSet p ix r b) p ix b s (capture p .malformedSlip ix.val r0) { code := .malformed }) ∧
    (∀ r : SettingsReq, r.clockSource.toNat ≤ 1 →
      let clamped := decide (r.windowLength.toNat < 1000 ∨ 4000 < r.windowLength.toNat ∨ r.ackDelay.toNat < 2 ∨
        15 < r.ackDelay.toNat ∨ r.mergeSpan.toNat < 1 ∨ 4 < r.mergeSpan.toNat ∨ 15 < r.grantLimit.toNat ∨
        (∃ z : Fin 8, r.capacity[z].toNat < 40 ∨ 160 < r.capacity[z].toNat) ∨ (∃ i : Fin 16, 7 < r.siteZone[i].toNat) ∨
        15 < r.lineThreshold.toNat ∨ 15 < r.zoneThreshold.toNat ∨ r.frameTimeout.toNat < 1 ∨
        10 < r.frameTimeout.toNat ∨ r.sealDelay.toNat < 1 ∨ 64 < r.sealDelay.toNat ∨ r.tagIdle.toNat < 1)
      ∃ st : Settings, Answers (.settingsSet p ix r b) p ix b s { r0 with settings := st }
          { code := .done, flags := if clamped then 1 else 0, fields := st.bytes } ∧
      st.windowLength = max 1000 (min 4000 r.windowLength.toNat) ∧
      (st.clockSource = .strobe ↔ r.clockSource = 1) ∧ st.ackDelay = max 2 (min 15 r.ackDelay.toNat) ∧
      st.mergeSpan = max 1 (min 4 r.mergeSpan.toNat) ∧ st.grantLimit = min 15 r.grantLimit.toNat ∧
      (∀ z : Fin 8, st.capacity[z] = max 40 (min 160 r.capacity[z].toNat) ∧ st.neighbours[z] = r.neighbours[z]) ∧
      (∀ i : Fin 16, (st.siteZone[i]).val = min 7 r.siteZone[i].toNat) ∧
      st.lineThreshold = min 15 r.lineThreshold.toNat ∧ st.zoneThreshold = min 15 r.zoneThreshold.toNat ∧
      st.frameTimeout = max 1 (min 10 r.frameTimeout.toNat) ∧ st.sealDelay = max 1 (min 64 r.sealDelay.toNat) ∧
      st.tagIdle = max 1 r.tagIdle.toNat)

/-- The LINE and ZONE slips by the holder of control (R46, R56, R99, R100, R113): OPEN and CLOSE, IN-SERVICE, OUT-OF-SERVICE
and TEST, where they change the state and where they do not; a change raises LINE (bit 6) or ZONE (bit 7) at both ports and offers
both the record of the old and new state, cause SLIP (IN-SERVICE and ON-AIR of a line's record being 0 by the model's choice,
log 43); that OUT-OF-SERVICE drops a probe that awaits its answer is the model's reading (log 20); a number
over 7 is BAD-LINE or BAD-ZONE, and TEST in SYNC, LINKED and DOWN is NOT-IDLE, all without effect. The coding of the states
in the answers is the model's choice (log 15). -/
def Obligations.LineAndZoneSlips : Prop :=
  ∀ (p : Port) (ix : Fin 64) (w : Word) (b : Bus) (s : State), Taking p ix b s → s.part = .ready →
    s.control.holder = some p →
    let r0 := s.reached p ix
    (8 ≤ w.toNat →
      Answers (.lineOpen p ix w b) p ix b s r0 { code := .badLine } ∧
      Answers (.lineClose p ix w b) p ix b s r0 { code := .badLine } ∧
      Answers (.zoneInService p ix w b) p ix b s r0 { code := .badZone } ∧
      Answers (.zoneOutOfService p ix w b) p ix b s r0 { code := .badZone } ∧
      Answers (.zoneTest p ix w b) p ix b s r0 { code := .badZone }) ∧
    (∀ l : Fin 8, w.toNat = l.val →
      let ln := s.line l
      let zn := s.zone l
      let line := fun (c : Instr) (code : Byte) (x : Line) => ∃ e, Answers c p ix b s e { code := .done, fields := [code] } ∧
        e.line l = x ∧ (∀ k, k ≠ l → e.line k = s.line k) ∧
        RecordOffered { source := .line l, old := ln.state.toNat, new := x.state.toNat, cause := .slip, inService := false,
                        onAir := false, window := s.now } s e ∧
        ∀ q, (e.port q).notice.getLsbD 6 = true
      let zone := fun (c : Instr) (fields : List Byte) (x : Zone) =>
        ∃ e, Answers c p ix b s e { code := .done, fields := fields } ∧
          e.zone l = x ∧ (∀ k, k ≠ l → e.zone k = s.zone k) ∧
          RecordOffered { source := .zone l, old := zn.link.toNat, new := x.link.toNat, cause := .slip,
                          inService := x.inService, onAir := x.onAir, window := s.now } s e ∧
          ∀ q, (e.port q).notice.getLsbD 7 = true
      let gone := { zn with held := zn.held.map fun (ld : Load) => if ld.xfer = Xfer.sending then { ld with xfer := Xfer.abandoned } else ld }
      (ln.state = .opened → Answers (.lineOpen p ix w b) p ix b s r0 { code := .done, fields := [1] }) ∧
      (ln.state ≠ .opened → line (.lineOpen p ix w b) 1 { ln with state := .opened, errorsSweep := 0 }) ∧
      (ln.state = .closed → Answers (.lineClose p ix w b) p ix b s r0 { code := .done, fields := [0] }) ∧
      (ln.state ≠ .closed →
        line (.lineClose p ix w b) 0 { ln with state := .closed, rx := .hunting, buffer := [] }) ∧
      (zn.link = .idle ∨ zn.link = .test →
        zone (.zoneInService p ix w b) [1, 0]
          { zn with link := .sync, inService := true, onAir := false, goodProbes := 0, errorsSweep := 0, echo := none }) ∧
      (zn.link ≠ .idle → zn.link ≠ .test → ∃ a, a.code = .done ∧ Answers (.zoneInService p ix w b) p ix b s r0 a) ∧
      (zn.link = .idle → ∃ a, a.code = .done ∧ Answers (.zoneOutOfService p ix w b) p ix b s r0 a) ∧
      (zn.link ≠ .idle →
        zone (.zoneOutOfService p ix w b) [0, 1]
          { gone with link := .idle, inService := false, onAir := false, goodProbes := 0, echo := none,
                      probeMs := none }) ∧
      (zn.link = .idle → ∃ fields, zone (.zoneTest p ix w b) fields
          { zn with link := .test, onAir := false, pattern := 0x1FF#9, testLoads := 0, testMismatches := 0 }) ∧
      (zn.link = .test → ∃ a, a.code = .done ∧ Answers (.zoneTest p ix w b) p ix b s r0 a) ∧
      (zn.link = .sync ∨ zn.link = .linked ∨ zn.link = .down →
        Answers (.zoneTest p ix w b) p ix b s r0 { code := .notIdle }))

/-- What no slip can do (R12, R185, R189, R191): while the part is STARTING every slip is answered NOT-READY; a slip of an
unknown kind or operation is answered MALFORMED and captures MALFORMED-SLIP with its index; and a slip that needs control,
posted at a port without it, is NOT-CONTROL, but where it fails the check before that, of its selector (MALFORMED), its plan
(BAD-PLAN), its line (BAD-LINE) or its zone (BAD-ZONE). Of MODIFY, SUSPEND, RESUME, REMOVE, READ and CREDIT by the holder (R12, R166), a
selector that is neither of the two is MALFORMED, a slot number over 16,383 BAD-SLOT, a subscriber number in no directory entry
UNKNOWN, and a VACANT slot, but for READ, VACANT-SLOT. None of them changes anything else. -/
def Obligations.SlipRefusals : Prop :=
  ∀ (c : Instr) (p : Port) (ix : Fin 64) (b : Bus) (s : State), slipOf c = some (p, ix, b) → Taking p ix b s →
    let r0 := s.reached p ix
    let malformed := Answers c p ix b s (capture p .malformedSlip ix.val r0) { code := .malformed }
    (s.part = .starting → Answers c p ix b s r0 { code := .notReady }) ∧
    (s.part = .ready → (∃ kind op, c = .malformedSlip p ix kind op b) → malformed) ∧
    (s.part = .ready → needsControl c = true → s.control.holder ≠ some p →
      (failsBeforeControl c = none → Answers c p ix b s r0 { code := .notControl }) ∧
      (failsBeforeControl c = some .malformed → malformed) ∧
      (∀ code, failsBeforeControl c = some code → code ≠ .malformed → Answers c p ix b s r0 { code := code })) ∧
    (s.part = .ready → s.control.holder = some p → ∀ (n : SubName),
      let reads := c = .subscriberRead p ix n b
      reads ∨ (∃ r, c = .subscriberModify p ix n r b) ∨ c = .subscriberSuspend p ix n b ∨ c = .subscriberResume p ix n b ∨
        c = .subscriberRemove p ix n b ∨ (∃ amount, c = .credit p ix n amount b) →
      (n.selector ≠ 0 → n.selector ≠ 1 → malformed) ∧
      (n.selector = 0 → 16383 < n.name.toNat → Answers c p ix b s r0 { code := .badSlot }) ∧
      (n.selector = 1 → Assoc.get? n.name.toNat s.numbers = none → Answers c p ix b s r0 { code := .unknown }) ∧
      (∀ slot, Names n slot s → s.sub? slot = none → ¬ reads → Answers c p ix b s r0 { code := .vacantSlot }))

/-- A slip's bytes spell its command (section 11.9.4): decoding what the encoder writes gives back every well-formed slip
command, whatever stands in the slip after its body. The order of the body's fields is the model's choice (log 15). -/
def Obligations.SlipRoundTrip : Prop :=
  ∀ (c : Instr) (p : Port) (ix : Fin 64) (b : Bus) (bytes rest : List Byte), slipOf c = some (p, ix, b) →
    c.wellFormed = true → encodeSlip c = some bytes → decodeSlip p ix b (bytes ++ rest) = some c

/-! ### Rating and posting (chapter 9, chapter 10) -/

/-- The seven stages of a rating (R155 to R159), and the bound of every charge and allowance used over the ranges of the
inputs. -/
def Obligations.RatingStages : Prop :=
  ∀ i : RateInput,
    chargeable i = (if i.allowance < i.cells then i.cells - i.allowance else 0) ∧
    rawCharge i = (if chargeable i = 0 then 0 else i.base + i.cell * chargeable i) ∧
    bandedCharge i = (rawCharge i * i.band + 32) / 64 ∧
    (i.band = 64 → bandedCharge i = rawCharge i) ∧ (i.band = 96 → bandedCharge i = (3 * rawCharge i + 1) / 2) ∧
    (i.band = 32 → bandedCharge i = (rawCharge i + 1) / 2) ∧ (i.band = 0 → prioritised i = 0) ∧
    prioritised i = bandedCharge i + (bandedCharge i * i.surcharge + 50) / 100 ∧
    (i.surcharge = 0 → prioritised i = bandedCharge i) ∧
    totalCharge i = prioritised i + i.search * i.extra ∧
    (i.transmitted = false → chargeOf i = 0 ∧ allowanceUsedOf i = 0) ∧
    (i.transmitted = true → allowanceUsedOf i = min i.cells i.allowance ∧
      let factored := if i.delivered then totalCharge i else (totalCharge i * i.undelivered + 50) / 100
      chargeOf i = if i.cap = 0 then factored else min factored i.cap) ∧
    (i.cells ≤ 50 → i.base ≤ 65535 → i.cell ≤ 65535 → i.band ≤ 255 → i.surcharge ≤ 200 → i.search ≤ 65535 →
      i.extra ≤ 255 → i.undelivered ≤ 100 →
        chargeOf i ≤ 56662176 ∧ allowanceUsedOf i ≤ 50 ∧ allowanceUsedOf i ≤ i.allowance ∧
        (i.cap ≠ 0 → chargeOf i ≤ i.cap))
end

