-- ==== Sys2Proof/Laws/Memory.lean ====
section
/-! SUPPORT. The laws of the sparse collections and of host memory: read after write, and that every operation keeps the
canonical form. -/

namespace Sys2Proof.Machine

section Collections

variable {α : Type}

@[simp] theorem Assoc.get?_put_self (k : Nat) (v : α) (m : List (Nat × α)) :
    Assoc.get? k (Assoc.put k v m) = some v := by
  induction m with
  | nil => simp [Assoc.put, Assoc.get?]
  | cons e t ih =>
    obtain ⟨k', v'⟩ := e
    simp only [Assoc.put]
    split
    · simp [Assoc.get?]
    · split
      · simp [Assoc.get?]
      · rename_i h
        simp [Assoc.get?, h, ih]

theorem Assoc.get?_put_ne {k j : Nat} (h : j ≠ k) (v : α) (m : List (Nat × α)) :
    Assoc.get? j (Assoc.put k v m) = Assoc.get? j m := by
  induction m with
  | nil => simp [Assoc.put, Assoc.get?, h]
  | cons e t ih =>
    obtain ⟨k', v'⟩ := e
    simp only [Assoc.put]
    split
    · simp [Assoc.get?, h]
    · split
      · rename_i e; subst e
        simp [Assoc.get?, h]
      · simp [Assoc.get?, ih]

theorem Assoc.get?_put (k j : Nat) (v : α) (m : List (Nat × α)) :
    Assoc.get? j (Assoc.put k v m) = if j = k then some v else Assoc.get? j m := by
  split
  · rename_i h; subst h; simp
  · rename_i h; exact Assoc.get?_put_ne h v m

@[simp] theorem Assoc.get?_erase_self (k : Nat) (m : List (Nat × α)) : Assoc.get? k (Assoc.erase k m) = none := by
  induction m with
  | nil => rfl
  | cons e t ih =>
    obtain ⟨k', v'⟩ := e
    by_cases h : k' = k
    · simpa [Assoc.erase, h] using ih
    · have h' : ¬ k = k' := fun e => h e.symm
      simpa [Assoc.erase, Assoc.get?, h, h'] using ih

theorem Assoc.get?_erase_ne {k j : Nat} (h : j ≠ k) (m : List (Nat × α)) :
    Assoc.get? j (Assoc.erase k m) = Assoc.get? j m := by
  induction m with
  | nil => rfl
  | cons e t ih =>
    obtain ⟨k', v'⟩ := e
    by_cases h' : k' = k
    · subst h'
      simpa [Assoc.erase, Assoc.get?, h] using ih
    · by_cases hj : j = k'
      · simp [Assoc.erase, Assoc.get?, h', hj]
      · simpa [Assoc.erase, Assoc.get?, h', hj] using ih

/-- A key below every key of a collection has no entry. -/
theorem Assoc.get?_none_of_lt {k : Nat} {m : List (Nat × α)} (h : ∀ e ∈ m, k < e.1) : Assoc.get? k m = none := by
  induction m with
  | nil => rfl
  | cons e t ih =>
    have h1 : k < e.1 := h e (by simp)
    have h2 : ∀ e ∈ t, k < e.1 := fun e he => h e (by simp [he])
    obtain ⟨k', v'⟩ := e
    simp only [Assoc.get?]
    rw [if_neg (by simp at h1; omega), ih h2]

/-- In canonical form, an entry is what its key reads. -/
theorem Assoc.mem_iff_get? {m : List (Nat × α)} (h : Assoc.wf m) (k : Nat) (v : α) :
    (k, v) ∈ m ↔ Assoc.get? k m = some v := by
  induction m with
  | nil => simp [Assoc.get?]
  | cons e t ih =>
    obtain ⟨k', v'⟩ := e
    rw [Assoc.wf, List.pairwise_cons] at h
    by_cases hk : k = k'
    · subst hk
      have : (k, v) ∉ t := fun hm => by have := h.1 _ hm; simp at this
      simp [Assoc.get?, this, eq_comm]
    · simp [Assoc.get?, hk, ih h.2]

/-- The keys of a put collection are the old keys and the new one. -/
theorem Assoc.mem_put_key {k : Nat} {v : α} {m : List (Nat × α)} {e : Nat × α} (h : e ∈ Assoc.put k v m) :
    e.1 = k ∨ e ∈ m := by
  induction m with
  | nil => simp [Assoc.put] at h; simp [h]
  | cons e' t ih =>
    obtain ⟨k', v'⟩ := e'
    simp only [Assoc.put] at h
    split at h
    · rcases List.mem_cons.1 h with h | h
      · simp [h]
      · exact .inr h
    · split at h
      · rcases List.mem_cons.1 h with h | h
        · simp [h]
        · exact .inr (List.mem_cons_of_mem _ h)
      · rcases List.mem_cons.1 h with h | h
        · simp [h]
        · rcases ih h with h | h
          · exact .inl h
          · exact .inr (List.mem_cons_of_mem _ h)

/-- A put keeps the canonical form. -/
theorem Assoc.put_wf {m : List (Nat × α)} (h : Assoc.wf m) (k : Nat) (v : α) : Assoc.wf (Assoc.put k v m) := by
  induction m with
  | nil => simp [Assoc.put, Assoc.wf]
  | cons e t ih =>
    obtain ⟨k', v'⟩ := e
    have h' := h
    rw [Assoc.wf, List.pairwise_cons] at h'
    simp only [Assoc.put]
    split
    · rename_i hk
      rw [Assoc.wf, List.pairwise_cons]
      refine ⟨fun x hx => ?_, h⟩
      rcases List.mem_cons.1 hx with hx | hx
      · subst hx; exact hk
      · have := h'.1 x hx; simp at this; simp; omega
    · split
      · rename_i hk; subst hk
        rw [Assoc.wf, List.pairwise_cons]
        exact ⟨h'.1, h'.2⟩
      · rename_i h1 h2
        rw [Assoc.wf, List.pairwise_cons]
        refine ⟨fun x hx => ?_, ih h'.2⟩
        rcases Assoc.mem_put_key hx with hx | hx
        · simp [hx]; omega
        · exact h'.1 x hx

/-- An erase keeps the canonical form. -/
theorem Assoc.erase_wf {m : List (Nat × α)} (h : Assoc.wf m) (k : Nat) : Assoc.wf (Assoc.erase k m) :=
  h.filter _

/-- A change of the values alone keeps the canonical form. -/
theorem Assoc.mapValues_wf {m : List (Nat × α)} (h : Assoc.wf m) (f : Nat × α → α) :
    Assoc.wf (m.map fun e => (e.1, f e)) := by
  rw [Assoc.wf, List.pairwise_map]
  exact h

/-- What a change of the values alone reads. -/
theorem Assoc.get?_mapValues (f : Nat × α → α) (k : Nat) (m : List (Nat × α)) :
    Assoc.get? k (m.map fun e => (e.1, f e)) = (Assoc.get? k m).map fun v => f (k, v) := by
  induction m with
  | nil => rfl
  | cons e t ih =>
    obtain ⟨k', v'⟩ := e
    by_cases h : k = k'
    · subst h; simp [Assoc.get?]
    · simpa [Assoc.get?, h] using ih

/-- A put under a key that has an entry keeps the number of entries. -/
theorem Assoc.length_put_of_mem {k : Nat} {v : α} {m : List (Nat × α)} (hw : Assoc.wf m)
    (h : (Assoc.get? k m).isSome) : (Assoc.put k v m).length = m.length := by
  induction m with
  | nil => simp [Assoc.get?] at h
  | cons e t ih =>
    obtain ⟨k', v'⟩ := e
    rw [Assoc.wf, List.pairwise_cons] at hw
    simp only [Assoc.put]
    split
    · rename_i hk
      have : Assoc.get? k ((k', v') :: t) = none := by
        apply Assoc.get?_none_of_lt
        intro e he
        rcases List.mem_cons.1 he with he | he
        · subst he; exact hk
        · have := hw.1 e he; simp at this; omega
      simp [this] at h
    · split
      · simp
      · rename_i h2
        simp only [Assoc.get?, if_neg h2] at h
        simp [ih hw.2 h]

/-- A put under a key with no entry adds one entry. -/
theorem Assoc.length_put_of_not_mem {k : Nat} {v : α} {m : List (Nat × α)} (h : Assoc.get? k m = none) :
    (Assoc.put k v m).length = m.length + 1 := by
  induction m with
  | nil => rfl
  | cons e t ih =>
    obtain ⟨k', v'⟩ := e
    simp only [Assoc.get?] at h
    split at h
    · cases h
    · rename_i h2
      simp only [Assoc.put]
      split
      · simp
      · simp [ih h]

end Collections

/-! ### The calendars -/

theorem calSet_wf {cal : List (Nat × List Nat)} (h : Assoc.wf cal) (w : Win) (l : List Nat) :
    Assoc.wf (calSet w l cal) := by
  unfold calSet
  split
  · exact Assoc.erase_wf h _
  · exact Assoc.put_wf h _ _

theorem calAdd_wf {cal : List (Nat × List Nat)} (h : Assoc.wf cal) (w : Win) (n : Nat) : Assoc.wf (calAdd w n cal) :=
  calSet_wf h _ _

theorem calRemove_wf {cal : List (Nat × List Nat)} (h : Assoc.wf cal) (w : Win) (n : Nat) :
    Assoc.wf (calRemove w n cal) :=
  calSet_wf h _ _

theorem calList_calSet (w x : Win) (l : List Nat) (cal : List (Nat × List Nat)) :
    calList x (calSet w l cal) = if x = w then l else calList x cal := by
  unfold calList calSet
  by_cases hx : x = w
  · subst hx
    split <;> simp_all
  · have : x.toNat ≠ w.toNat := fun e => hx (BitVec.eq_of_toNat_eq e)
    rw [if_neg hx]
    split <;> simp [Assoc.get?_erase_ne this, Assoc.get?_put_ne this]

/-! ### Host memory -/

/-- A write changes no byte outside the bytes it writes. -/
theorem memRead_memWrite_outside {x a : Nat} (bs : List Byte) (m : List Host.Cell) (h : x < a ∨ a + bs.length ≤ x) :
    memRead x (memWrite a bs m) = memRead x m := by
  induction bs generalizing a m with
  | nil => rfl
  | cons b bs ih =>
    simp only [List.length_cons] at h
    rw [memWrite, ih _ (by omega)]
    exact Assoc.get?_put_ne (by omega) _ _

/-- Each byte written reads as written. -/
theorem memRead_memWrite_inside {i a : Nat} (bs : List Byte) (m : List Host.Cell) (h : i < bs.length) :
    memRead (a + i) (memWrite a bs m) = bs[i]? := by
  induction bs generalizing a i m with
  | nil => simp at h
  | cons b bs ih =>
    rw [memWrite]
    cases i with
    | zero =>
      rw [memRead_memWrite_outside _ _ (by omega)]
      simp [memRead]
    | succ i =>
      have : a + (i + 1) = a + 1 + i := by omega
      rw [this, ih _ (by simpa using h)]
      simp

/-- A write keeps the canonical form. -/
theorem memWrite_wf {m : List Host.Cell} (h : Memory.wf m) (a : Nat) (bs : List Byte) : Memory.wf (memWrite a bs m) := by
  induction bs generalizing a m with
  | nil => exact h
  | cons b bs ih => exact ih (Assoc.put_wf h _ _) _

/-- A write of header fields keeps the canonical form. -/
theorem writeFields_wf {m : List Host.Cell} (h : Memory.wf m) (base : Nat) (fs : List (Nat × List Byte)) :
    Memory.wf (writeFields base fs m) := by
  unfold writeFields
  induction fs generalizing m with
  | nil => exact h
  | cons f fs ih => exact ih (memWrite_wf h _ _)

/-- A write of fields changes no byte outside them. -/
theorem memRead_writeFields_outside {x base : Nat} (fs : List (Nat × List Byte)) (m : List Host.Cell)
    (h : ∀ f ∈ fs, x < base + f.1 ∨ base + f.1 + f.2.length ≤ x) :
    memRead x (writeFields base fs m) = memRead x m := by
  unfold writeFields
  induction fs generalizing m with
  | nil => rfl
  | cons f fs ih =>
    rw [List.foldl_cons, ih _ fun g hg => h g (List.mem_cons_of_mem _ hg)]
    exact memRead_memWrite_outside _ _ (h f (by simp))

/-- The memories after power-on reset have the canonical form. -/
theorem reset_memory_wf : Memory.wf State.reset.portA.hostMem ∧ Memory.wf State.reset.portB.hostMem := by
  decide

end Sys2Proof.Machine
end

