-- ==== Sys2Proof/Laws/State.lean ====
section
/-! SUPPORT. The small lemmas of the state's updates: what each accessor's update leaves alone, field by field, and what
it makes of its own field. -/

namespace Sys2Proof.Machine

variable (s : State)

/-! ### modPort -/

@[simp] theorem State.modPort_pending (p : Port) (f : PortUnit → PortUnit) : (s.modPort p f).pending = s.pending := by
  cases p <;> rfl

@[simp] theorem State.modPort_part (p : Port) (f : PortUnit → PortUnit) : (s.modPort p f).part = s.part := by
  cases p <;> rfl

@[simp] theorem State.modPort_startUp (p : Port) (f : PortUnit → PortUnit) : (s.modPort p f).startUp = s.startUp := by
  cases p <;> rfl

@[simp] theorem State.modPort_ms (p : Port) (f : PortUnit → PortUnit) : (s.modPort p f).ms = s.ms := by
  cases p <;> rfl

@[simp] theorem State.modPort_clock (p : Port) (f : PortUnit → PortUnit) : (s.modPort p f).clock = s.clock := by
  cases p <;> rfl

@[simp] theorem State.modPort_due (p : Port) (f : PortUnit → PortUnit) : (s.modPort p f).due = s.due := by
  cases p <;> rfl

@[simp] theorem State.modPort_settings (p : Port) (f : PortUnit → PortUnit) : (s.modPort p f).settings = s.settings := by
  cases p <;> rfl

@[simp] theorem State.modPort_slots (p : Port) (f : PortUnit → PortUnit) : (s.modPort p f).slots = s.slots := by
  cases p <;> rfl

@[simp] theorem State.modPort_numbers (p : Port) (f : PortUnit → PortUnit) : (s.modPort p f).numbers = s.numbers := by
  cases p <;> rfl

@[simp] theorem State.modPort_pagers (p : Port) (f : PortUnit → PortUnit) : (s.modPort p f).pagers = s.pagers := by
  cases p <;> rfl

@[simp] theorem State.modPort_tags (p : Port) (f : PortUnit → PortUnit) : (s.modPort p f).tags = s.tags := by
  cases p <;> rfl

@[simp] theorem State.modPort_tagFree (p : Port) (f : PortUnit → PortUnit) : (s.modPort p f).tagFree = s.tagFree := by
  cases p <;> rfl

@[simp] theorem State.modPort_coolDown (p : Port) (f : PortUnit → PortUnit) : (s.modPort p f).coolDown = s.coolDown := by
  cases p <;> rfl

@[simp] theorem State.modPort_msgs (p : Port) (f : PortUnit → PortUnit) : (s.modPort p f).msgs = s.msgs := by
  cases p <;> rfl

@[simp] theorem State.modPort_freePlaces (p : Port) (f : PortUnit → PortUnit) : (s.modPort p f).freePlaces = s.freePlaces := by
  cases p <;> rfl

@[simp] theorem State.modPort_freeBlocks (p : Port) (f : PortUnit → PortUnit) : (s.modPort p f).freeBlocks = s.freeBlocks := by
  cases p <;> rfl

@[simp] theorem State.modPort_dueCal (p : Port) (f : PortUnit → PortUnit) : (s.modPort p f).dueCal = s.dueCal := by
  cases p <;> rfl

@[simp] theorem State.modPort_expiryCal (p : Port) (f : PortUnit → PortUnit) : (s.modPort p f).expiryCal = s.expiryCal := by
  cases p <;> rfl

@[simp] theorem State.modPort_nextSerial (p : Port) (f : PortUnit → PortUnit) : (s.modPort p f).nextSerial = s.nextSerial := by
  cases p <;> rfl

@[simp] theorem State.modPort_lines (p : Port) (f : PortUnit → PortUnit) : (s.modPort p f).lines = s.lines := by
  cases p <;> rfl

@[simp] theorem State.modPort_zones (p : Port) (f : PortUnit → PortUnit) : (s.modPort p f).zones = s.zones := by
  cases p <;> rfl

@[simp] theorem State.modPort_deferrals (p : Port) (f : PortUnit → PortUnit) : (s.modPort p f).deferrals = s.deferrals := by
  cases p <;> rfl

@[simp] theorem State.modPort_promotions (p : Port) (f : PortUnit → PortUnit) : (s.modPort p f).promotions = s.promotions := by
  cases p <;> rfl

@[simp] theorem State.modPort_replyLinks (p : Port) (f : PortUnit → PortUnit) : (s.modPort p f).replyLinks = s.replyLinks := by
  cases p <;> rfl

@[simp] theorem State.modPort_merge (p : Port) (f : PortUnit → PortUnit) : (s.modPort p f).merge = s.merge := by
  cases p <;> rfl

@[simp] theorem State.modPort_offerWait (p : Port) (f : PortUnit → PortUnit) : (s.modPort p f).offerWait = s.offerWait := by
  cases p <;> rfl

@[simp] theorem State.modPort_replyCounts (p : Port) (f : PortUnit → PortUnit) : (s.modPort p f).replyCounts = s.replyCounts := by
  cases p <;> rfl

@[simp] theorem State.modPort_retryCounts (p : Port) (f : PortUnit → PortUnit) : (s.modPort p f).retryCounts = s.retryCounts := by
  cases p <;> rfl

@[simp] theorem State.modPort_plans (p : Port) (f : PortUnit → PortUnit) : (s.modPort p f).plans = s.plans := by
  cases p <;> rfl

@[simp] theorem State.modPort_band (p : Port) (f : PortUnit → PortUnit) : (s.modPort p f).band = s.band := by
  cases p <;> rfl

@[simp] theorem State.modPort_globalPeriod (p : Port) (f : PortUnit → PortUnit) : (s.modPort p f).globalPeriod = s.globalPeriod := by
  cases p <;> rfl

@[simp] theorem State.modPort_walk (p : Port) (f : PortUnit → PortUnit) : (s.modPort p f).walk = s.walk := by
  cases p <;> rfl

@[simp] theorem State.modPort_unheld (p : Port) (f : PortUnit → PortUnit) : (s.modPort p f).unheld = s.unheld := by
  cases p <;> rfl

@[simp] theorem State.modPort_control (p : Port) (f : PortUnit → PortUnit) : (s.modPort p f).control = s.control := by
  cases p <;> rfl

/-! ### modLine -/

@[simp] theorem State.modLine_pending (l : Fin 8) (f : Line → Line) : (s.modLine l f).pending = s.pending := rfl

@[simp] theorem State.modLine_part (l : Fin 8) (f : Line → Line) : (s.modLine l f).part = s.part := rfl

@[simp] theorem State.modLine_startUp (l : Fin 8) (f : Line → Line) : (s.modLine l f).startUp = s.startUp := rfl

@[simp] theorem State.modLine_ms (l : Fin 8) (f : Line → Line) : (s.modLine l f).ms = s.ms := rfl

@[simp] theorem State.modLine_clock (l : Fin 8) (f : Line → Line) : (s.modLine l f).clock = s.clock := rfl

@[simp] theorem State.modLine_due (l : Fin 8) (f : Line → Line) : (s.modLine l f).due = s.due := rfl

@[simp] theorem State.modLine_settings (l : Fin 8) (f : Line → Line) : (s.modLine l f).settings = s.settings := rfl

@[simp] theorem State.modLine_slots (l : Fin 8) (f : Line → Line) : (s.modLine l f).slots = s.slots := rfl

@[simp] theorem State.modLine_numbers (l : Fin 8) (f : Line → Line) : (s.modLine l f).numbers = s.numbers := rfl

@[simp] theorem State.modLine_pagers (l : Fin 8) (f : Line → Line) : (s.modLine l f).pagers = s.pagers := rfl

@[simp] theorem State.modLine_tags (l : Fin 8) (f : Line → Line) : (s.modLine l f).tags = s.tags := rfl

@[simp] theorem State.modLine_tagFree (l : Fin 8) (f : Line → Line) : (s.modLine l f).tagFree = s.tagFree := rfl

@[simp] theorem State.modLine_coolDown (l : Fin 8) (f : Line → Line) : (s.modLine l f).coolDown = s.coolDown := rfl

@[simp] theorem State.modLine_msgs (l : Fin 8) (f : Line → Line) : (s.modLine l f).msgs = s.msgs := rfl

@[simp] theorem State.modLine_freePlaces (l : Fin 8) (f : Line → Line) : (s.modLine l f).freePlaces = s.freePlaces := rfl

@[simp] theorem State.modLine_freeBlocks (l : Fin 8) (f : Line → Line) : (s.modLine l f).freeBlocks = s.freeBlocks := rfl

@[simp] theorem State.modLine_dueCal (l : Fin 8) (f : Line → Line) : (s.modLine l f).dueCal = s.dueCal := rfl

@[simp] theorem State.modLine_expiryCal (l : Fin 8) (f : Line → Line) : (s.modLine l f).expiryCal = s.expiryCal := rfl

@[simp] theorem State.modLine_nextSerial (l : Fin 8) (f : Line → Line) : (s.modLine l f).nextSerial = s.nextSerial := rfl

@[simp] theorem State.modLine_zones (l : Fin 8) (f : Line → Line) : (s.modLine l f).zones = s.zones := rfl

@[simp] theorem State.modLine_deferrals (l : Fin 8) (f : Line → Line) : (s.modLine l f).deferrals = s.deferrals := rfl

@[simp] theorem State.modLine_promotions (l : Fin 8) (f : Line → Line) : (s.modLine l f).promotions = s.promotions := rfl

@[simp] theorem State.modLine_replyLinks (l : Fin 8) (f : Line → Line) : (s.modLine l f).replyLinks = s.replyLinks := rfl

@[simp] theorem State.modLine_merge (l : Fin 8) (f : Line → Line) : (s.modLine l f).merge = s.merge := rfl

@[simp] theorem State.modLine_offerWait (l : Fin 8) (f : Line → Line) : (s.modLine l f).offerWait = s.offerWait := rfl

@[simp] theorem State.modLine_replyCounts (l : Fin 8) (f : Line → Line) : (s.modLine l f).replyCounts = s.replyCounts := rfl

@[simp] theorem State.modLine_retryCounts (l : Fin 8) (f : Line → Line) : (s.modLine l f).retryCounts = s.retryCounts := rfl

@[simp] theorem State.modLine_plans (l : Fin 8) (f : Line → Line) : (s.modLine l f).plans = s.plans := rfl

@[simp] theorem State.modLine_band (l : Fin 8) (f : Line → Line) : (s.modLine l f).band = s.band := rfl

@[simp] theorem State.modLine_globalPeriod (l : Fin 8) (f : Line → Line) : (s.modLine l f).globalPeriod = s.globalPeriod := rfl

@[simp] theorem State.modLine_walk (l : Fin 8) (f : Line → Line) : (s.modLine l f).walk = s.walk := rfl

@[simp] theorem State.modLine_unheld (l : Fin 8) (f : Line → Line) : (s.modLine l f).unheld = s.unheld := rfl

@[simp] theorem State.modLine_control (l : Fin 8) (f : Line → Line) : (s.modLine l f).control = s.control := rfl

@[simp] theorem State.modLine_portA (l : Fin 8) (f : Line → Line) : (s.modLine l f).portA = s.portA := rfl

@[simp] theorem State.modLine_portB (l : Fin 8) (f : Line → Line) : (s.modLine l f).portB = s.portB := rfl

/-! ### modZone -/

@[simp] theorem State.modZone_pending (z : Fin 8) (f : Zone → Zone) : (s.modZone z f).pending = s.pending := rfl

@[simp] theorem State.modZone_part (z : Fin 8) (f : Zone → Zone) : (s.modZone z f).part = s.part := rfl

@[simp] theorem State.modZone_startUp (z : Fin 8) (f : Zone → Zone) : (s.modZone z f).startUp = s.startUp := rfl

@[simp] theorem State.modZone_ms (z : Fin 8) (f : Zone → Zone) : (s.modZone z f).ms = s.ms := rfl

@[simp] theorem State.modZone_clock (z : Fin 8) (f : Zone → Zone) : (s.modZone z f).clock = s.clock := rfl

@[simp] theorem State.modZone_due (z : Fin 8) (f : Zone → Zone) : (s.modZone z f).due = s.due := rfl

@[simp] theorem State.modZone_settings (z : Fin 8) (f : Zone → Zone) : (s.modZone z f).settings = s.settings := rfl

@[simp] theorem State.modZone_slots (z : Fin 8) (f : Zone → Zone) : (s.modZone z f).slots = s.slots := rfl

@[simp] theorem State.modZone_numbers (z : Fin 8) (f : Zone → Zone) : (s.modZone z f).numbers = s.numbers := rfl

@[simp] theorem State.modZone_pagers (z : Fin 8) (f : Zone → Zone) : (s.modZone z f).pagers = s.pagers := rfl

@[simp] theorem State.modZone_tags (z : Fin 8) (f : Zone → Zone) : (s.modZone z f).tags = s.tags := rfl

@[simp] theorem State.modZone_tagFree (z : Fin 8) (f : Zone → Zone) : (s.modZone z f).tagFree = s.tagFree := rfl

@[simp] theorem State.modZone_coolDown (z : Fin 8) (f : Zone → Zone) : (s.modZone z f).coolDown = s.coolDown := rfl

@[simp] theorem State.modZone_msgs (z : Fin 8) (f : Zone → Zone) : (s.modZone z f).msgs = s.msgs := rfl

@[simp] theorem State.modZone_freePlaces (z : Fin 8) (f : Zone → Zone) : (s.modZone z f).freePlaces = s.freePlaces := rfl

@[simp] theorem State.modZone_freeBlocks (z : Fin 8) (f : Zone → Zone) : (s.modZone z f).freeBlocks = s.freeBlocks := rfl

@[simp] theorem State.modZone_dueCal (z : Fin 8) (f : Zone → Zone) : (s.modZone z f).dueCal = s.dueCal := rfl

@[simp] theorem State.modZone_expiryCal (z : Fin 8) (f : Zone → Zone) : (s.modZone z f).expiryCal = s.expiryCal := rfl

@[simp] theorem State.modZone_nextSerial (z : Fin 8) (f : Zone → Zone) : (s.modZone z f).nextSerial = s.nextSerial := rfl

@[simp] theorem State.modZone_lines (z : Fin 8) (f : Zone → Zone) : (s.modZone z f).lines = s.lines := rfl

@[simp] theorem State.modZone_deferrals (z : Fin 8) (f : Zone → Zone) : (s.modZone z f).deferrals = s.deferrals := rfl

@[simp] theorem State.modZone_promotions (z : Fin 8) (f : Zone → Zone) : (s.modZone z f).promotions = s.promotions := rfl

@[simp] theorem State.modZone_replyLinks (z : Fin 8) (f : Zone → Zone) : (s.modZone z f).replyLinks = s.replyLinks := rfl

@[simp] theorem State.modZone_merge (z : Fin 8) (f : Zone → Zone) : (s.modZone z f).merge = s.merge := rfl

@[simp] theorem State.modZone_offerWait (z : Fin 8) (f : Zone → Zone) : (s.modZone z f).offerWait = s.offerWait := rfl

@[simp] theorem State.modZone_replyCounts (z : Fin 8) (f : Zone → Zone) : (s.modZone z f).replyCounts = s.replyCounts := rfl

@[simp] theorem State.modZone_retryCounts (z : Fin 8) (f : Zone → Zone) : (s.modZone z f).retryCounts = s.retryCounts := rfl

@[simp] theorem State.modZone_plans (z : Fin 8) (f : Zone → Zone) : (s.modZone z f).plans = s.plans := rfl

@[simp] theorem State.modZone_band (z : Fin 8) (f : Zone → Zone) : (s.modZone z f).band = s.band := rfl

@[simp] theorem State.modZone_globalPeriod (z : Fin 8) (f : Zone → Zone) : (s.modZone z f).globalPeriod = s.globalPeriod := rfl

@[simp] theorem State.modZone_walk (z : Fin 8) (f : Zone → Zone) : (s.modZone z f).walk = s.walk := rfl

@[simp] theorem State.modZone_unheld (z : Fin 8) (f : Zone → Zone) : (s.modZone z f).unheld = s.unheld := rfl

@[simp] theorem State.modZone_control (z : Fin 8) (f : Zone → Zone) : (s.modZone z f).control = s.control := rfl

@[simp] theorem State.modZone_portA (z : Fin 8) (f : Zone → Zone) : (s.modZone z f).portA = s.portA := rfl

@[simp] theorem State.modZone_portB (z : Fin 8) (f : Zone → Zone) : (s.modZone z f).portB = s.portB := rfl

/-! ### modZones -/

@[simp] theorem State.modZones_pending (f : Fin 8 → Zone → Zone) : (s.modZones f).pending = s.pending := rfl

@[simp] theorem State.modZones_part (f : Fin 8 → Zone → Zone) : (s.modZones f).part = s.part := rfl

@[simp] theorem State.modZones_startUp (f : Fin 8 → Zone → Zone) : (s.modZones f).startUp = s.startUp := rfl

@[simp] theorem State.modZones_ms (f : Fin 8 → Zone → Zone) : (s.modZones f).ms = s.ms := rfl

@[simp] theorem State.modZones_clock (f : Fin 8 → Zone → Zone) : (s.modZones f).clock = s.clock := rfl

@[simp] theorem State.modZones_due (f : Fin 8 → Zone → Zone) : (s.modZones f).due = s.due := rfl

@[simp] theorem State.modZones_settings (f : Fin 8 → Zone → Zone) : (s.modZones f).settings = s.settings := rfl

@[simp] theorem State.modZones_slots (f : Fin 8 → Zone → Zone) : (s.modZones f).slots = s.slots := rfl

@[simp] theorem State.modZones_numbers (f : Fin 8 → Zone → Zone) : (s.modZones f).numbers = s.numbers := rfl

@[simp] theorem State.modZones_pagers (f : Fin 8 → Zone → Zone) : (s.modZones f).pagers = s.pagers := rfl

@[simp] theorem State.modZones_tags (f : Fin 8 → Zone → Zone) : (s.modZones f).tags = s.tags := rfl

@[simp] theorem State.modZones_tagFree (f : Fin 8 → Zone → Zone) : (s.modZones f).tagFree = s.tagFree := rfl

@[simp] theorem State.modZones_coolDown (f : Fin 8 → Zone → Zone) : (s.modZones f).coolDown = s.coolDown := rfl

@[simp] theorem State.modZones_msgs (f : Fin 8 → Zone → Zone) : (s.modZones f).msgs = s.msgs := rfl

@[simp] theorem State.modZones_freePlaces (f : Fin 8 → Zone → Zone) : (s.modZones f).freePlaces = s.freePlaces := rfl

@[simp] theorem State.modZones_freeBlocks (f : Fin 8 → Zone → Zone) : (s.modZones f).freeBlocks = s.freeBlocks := rfl

@[simp] theorem State.modZones_dueCal (f : Fin 8 → Zone → Zone) : (s.modZones f).dueCal = s.dueCal := rfl

@[simp] theorem State.modZones_expiryCal (f : Fin 8 → Zone → Zone) : (s.modZones f).expiryCal = s.expiryCal := rfl

@[simp] theorem State.modZones_nextSerial (f : Fin 8 → Zone → Zone) : (s.modZones f).nextSerial = s.nextSerial := rfl

@[simp] theorem State.modZones_lines (f : Fin 8 → Zone → Zone) : (s.modZones f).lines = s.lines := rfl

@[simp] theorem State.modZones_deferrals (f : Fin 8 → Zone → Zone) : (s.modZones f).deferrals = s.deferrals := rfl

@[simp] theorem State.modZones_promotions (f : Fin 8 → Zone → Zone) : (s.modZones f).promotions = s.promotions := rfl

@[simp] theorem State.modZones_replyLinks (f : Fin 8 → Zone → Zone) : (s.modZones f).replyLinks = s.replyLinks := rfl

@[simp] theorem State.modZones_merge (f : Fin 8 → Zone → Zone) : (s.modZones f).merge = s.merge := rfl

@[simp] theorem State.modZones_offerWait (f : Fin 8 → Zone → Zone) : (s.modZones f).offerWait = s.offerWait := rfl

@[simp] theorem State.modZones_replyCounts (f : Fin 8 → Zone → Zone) : (s.modZones f).replyCounts = s.replyCounts := rfl

@[simp] theorem State.modZones_retryCounts (f : Fin 8 → Zone → Zone) : (s.modZones f).retryCounts = s.retryCounts := rfl

@[simp] theorem State.modZones_plans (f : Fin 8 → Zone → Zone) : (s.modZones f).plans = s.plans := rfl

@[simp] theorem State.modZones_band (f : Fin 8 → Zone → Zone) : (s.modZones f).band = s.band := rfl

@[simp] theorem State.modZones_globalPeriod (f : Fin 8 → Zone → Zone) : (s.modZones f).globalPeriod = s.globalPeriod := rfl

@[simp] theorem State.modZones_walk (f : Fin 8 → Zone → Zone) : (s.modZones f).walk = s.walk := rfl

@[simp] theorem State.modZones_unheld (f : Fin 8 → Zone → Zone) : (s.modZones f).unheld = s.unheld := rfl

@[simp] theorem State.modZones_control (f : Fin 8 → Zone → Zone) : (s.modZones f).control = s.control := rfl

@[simp] theorem State.modZones_portA (f : Fin 8 → Zone → Zone) : (s.modZones f).portA = s.portA := rfl

@[simp] theorem State.modZones_portB (f : Fin 8 → Zone → Zone) : (s.modZones f).portB = s.portB := rfl

/-! ### modReplyLink -/

@[simp] theorem State.modReplyLink_pending (k : Fin 4) (f : ReplyLink → ReplyLink) : (s.modReplyLink k f).pending = s.pending := rfl

@[simp] theorem State.modReplyLink_part (k : Fin 4) (f : ReplyLink → ReplyLink) : (s.modReplyLink k f).part = s.part := rfl

@[simp] theorem State.modReplyLink_startUp (k : Fin 4) (f : ReplyLink → ReplyLink) : (s.modReplyLink k f).startUp = s.startUp := rfl

@[simp] theorem State.modReplyLink_ms (k : Fin 4) (f : ReplyLink → ReplyLink) : (s.modReplyLink k f).ms = s.ms := rfl

@[simp] theorem State.modReplyLink_clock (k : Fin 4) (f : ReplyLink → ReplyLink) : (s.modReplyLink k f).clock = s.clock := rfl

@[simp] theorem State.modReplyLink_due (k : Fin 4) (f : ReplyLink → ReplyLink) : (s.modReplyLink k f).due = s.due := rfl

@[simp] theorem State.modReplyLink_settings (k : Fin 4) (f : ReplyLink → ReplyLink) : (s.modReplyLink k f).settings = s.settings := rfl

@[simp] theorem State.modReplyLink_slots (k : Fin 4) (f : ReplyLink → ReplyLink) : (s.modReplyLink k f).slots = s.slots := rfl

@[simp] theorem State.modReplyLink_numbers (k : Fin 4) (f : ReplyLink → ReplyLink) : (s.modReplyLink k f).numbers = s.numbers := rfl

@[simp] theorem State.modReplyLink_pagers (k : Fin 4) (f : ReplyLink → ReplyLink) : (s.modReplyLink k f).pagers = s.pagers := rfl

@[simp] theorem State.modReplyLink_tags (k : Fin 4) (f : ReplyLink → ReplyLink) : (s.modReplyLink k f).tags = s.tags := rfl

@[simp] theorem State.modReplyLink_tagFree (k : Fin 4) (f : ReplyLink → ReplyLink) : (s.modReplyLink k f).tagFree = s.tagFree := rfl

@[simp] theorem State.modReplyLink_coolDown (k : Fin 4) (f : ReplyLink → ReplyLink) : (s.modReplyLink k f).coolDown = s.coolDown := rfl

@[simp] theorem State.modReplyLink_msgs (k : Fin 4) (f : ReplyLink → ReplyLink) : (s.modReplyLink k f).msgs = s.msgs := rfl

@[simp] theorem State.modReplyLink_freePlaces (k : Fin 4) (f : ReplyLink → ReplyLink) : (s.modReplyLink k f).freePlaces = s.freePlaces := rfl

@[simp] theorem State.modReplyLink_freeBlocks (k : Fin 4) (f : ReplyLink → ReplyLink) : (s.modReplyLink k f).freeBlocks = s.freeBlocks := rfl

@[simp] theorem State.modReplyLink_dueCal (k : Fin 4) (f : ReplyLink → ReplyLink) : (s.modReplyLink k f).dueCal = s.dueCal := rfl

@[simp] theorem State.modReplyLink_expiryCal (k : Fin 4) (f : ReplyLink → ReplyLink) : (s.modReplyLink k f).expiryCal = s.expiryCal := rfl

@[simp] theorem State.modReplyLink_nextSerial (k : Fin 4) (f : ReplyLink → ReplyLink) : (s.modReplyLink k f).nextSerial = s.nextSerial := rfl

@[simp] theorem State.modReplyLink_lines (k : Fin 4) (f : ReplyLink → ReplyLink) : (s.modReplyLink k f).lines = s.lines := rfl

@[simp] theorem State.modReplyLink_zones (k : Fin 4) (f : ReplyLink → ReplyLink) : (s.modReplyLink k f).zones = s.zones := rfl

@[simp] theorem State.modReplyLink_deferrals (k : Fin 4) (f : ReplyLink → ReplyLink) : (s.modReplyLink k f).deferrals = s.deferrals := rfl

@[simp] theorem State.modReplyLink_promotions (k : Fin 4) (f : ReplyLink → ReplyLink) : (s.modReplyLink k f).promotions = s.promotions := rfl

@[simp] theorem State.modReplyLink_merge (k : Fin 4) (f : ReplyLink → ReplyLink) : (s.modReplyLink k f).merge = s.merge := rfl

@[simp] theorem State.modReplyLink_offerWait (k : Fin 4) (f : ReplyLink → ReplyLink) : (s.modReplyLink k f).offerWait = s.offerWait := rfl

@[simp] theorem State.modReplyLink_replyCounts (k : Fin 4) (f : ReplyLink → ReplyLink) : (s.modReplyLink k f).replyCounts = s.replyCounts := rfl

@[simp] theorem State.modReplyLink_retryCounts (k : Fin 4) (f : ReplyLink → ReplyLink) : (s.modReplyLink k f).retryCounts = s.retryCounts := rfl

@[simp] theorem State.modReplyLink_plans (k : Fin 4) (f : ReplyLink → ReplyLink) : (s.modReplyLink k f).plans = s.plans := rfl

@[simp] theorem State.modReplyLink_band (k : Fin 4) (f : ReplyLink → ReplyLink) : (s.modReplyLink k f).band = s.band := rfl

@[simp] theorem State.modReplyLink_globalPeriod (k : Fin 4) (f : ReplyLink → ReplyLink) : (s.modReplyLink k f).globalPeriod = s.globalPeriod := rfl

@[simp] theorem State.modReplyLink_walk (k : Fin 4) (f : ReplyLink → ReplyLink) : (s.modReplyLink k f).walk = s.walk := rfl

@[simp] theorem State.modReplyLink_unheld (k : Fin 4) (f : ReplyLink → ReplyLink) : (s.modReplyLink k f).unheld = s.unheld := rfl

@[simp] theorem State.modReplyLink_control (k : Fin 4) (f : ReplyLink → ReplyLink) : (s.modReplyLink k f).control = s.control := rfl

@[simp] theorem State.modReplyLink_portA (k : Fin 4) (f : ReplyLink → ReplyLink) : (s.modReplyLink k f).portA = s.portA := rfl

@[simp] theorem State.modReplyLink_portB (k : Fin 4) (f : ReplyLink → ReplyLink) : (s.modReplyLink k f).portB = s.portB := rfl

/-! ### setSlot -/

@[simp] theorem State.setSlot_pending (n : Nat) (v : Slot) : (s.setSlot n v).pending = s.pending := rfl

@[simp] theorem State.setSlot_part (n : Nat) (v : Slot) : (s.setSlot n v).part = s.part := rfl

@[simp] theorem State.setSlot_startUp (n : Nat) (v : Slot) : (s.setSlot n v).startUp = s.startUp := rfl

@[simp] theorem State.setSlot_ms (n : Nat) (v : Slot) : (s.setSlot n v).ms = s.ms := rfl

@[simp] theorem State.setSlot_clock (n : Nat) (v : Slot) : (s.setSlot n v).clock = s.clock := rfl

@[simp] theorem State.setSlot_due (n : Nat) (v : Slot) : (s.setSlot n v).due = s.due := rfl

@[simp] theorem State.setSlot_settings (n : Nat) (v : Slot) : (s.setSlot n v).settings = s.settings := rfl

@[simp] theorem State.setSlot_numbers (n : Nat) (v : Slot) : (s.setSlot n v).numbers = s.numbers := rfl

@[simp] theorem State.setSlot_pagers (n : Nat) (v : Slot) : (s.setSlot n v).pagers = s.pagers := rfl

@[simp] theorem State.setSlot_tags (n : Nat) (v : Slot) : (s.setSlot n v).tags = s.tags := rfl

@[simp] theorem State.setSlot_tagFree (n : Nat) (v : Slot) : (s.setSlot n v).tagFree = s.tagFree := rfl

@[simp] theorem State.setSlot_coolDown (n : Nat) (v : Slot) : (s.setSlot n v).coolDown = s.coolDown := rfl

@[simp] theorem State.setSlot_msgs (n : Nat) (v : Slot) : (s.setSlot n v).msgs = s.msgs := rfl

@[simp] theorem State.setSlot_freePlaces (n : Nat) (v : Slot) : (s.setSlot n v).freePlaces = s.freePlaces := rfl

@[simp] theorem State.setSlot_freeBlocks (n : Nat) (v : Slot) : (s.setSlot n v).freeBlocks = s.freeBlocks := rfl

@[simp] theorem State.setSlot_dueCal (n : Nat) (v : Slot) : (s.setSlot n v).dueCal = s.dueCal := rfl

@[simp] theorem State.setSlot_expiryCal (n : Nat) (v : Slot) : (s.setSlot n v).expiryCal = s.expiryCal := rfl

@[simp] theorem State.setSlot_nextSerial (n : Nat) (v : Slot) : (s.setSlot n v).nextSerial = s.nextSerial := rfl

@[simp] theorem State.setSlot_lines (n : Nat) (v : Slot) : (s.setSlot n v).lines = s.lines := rfl

@[simp] theorem State.setSlot_zones (n : Nat) (v : Slot) : (s.setSlot n v).zones = s.zones := rfl

@[simp] theorem State.setSlot_deferrals (n : Nat) (v : Slot) : (s.setSlot n v).deferrals = s.deferrals := rfl

@[simp] theorem State.setSlot_promotions (n : Nat) (v : Slot) : (s.setSlot n v).promotions = s.promotions := rfl

@[simp] theorem State.setSlot_replyLinks (n : Nat) (v : Slot) : (s.setSlot n v).replyLinks = s.replyLinks := rfl

@[simp] theorem State.setSlot_merge (n : Nat) (v : Slot) : (s.setSlot n v).merge = s.merge := rfl

@[simp] theorem State.setSlot_offerWait (n : Nat) (v : Slot) : (s.setSlot n v).offerWait = s.offerWait := rfl

@[simp] theorem State.setSlot_replyCounts (n : Nat) (v : Slot) : (s.setSlot n v).replyCounts = s.replyCounts := rfl

@[simp] theorem State.setSlot_retryCounts (n : Nat) (v : Slot) : (s.setSlot n v).retryCounts = s.retryCounts := rfl

@[simp] theorem State.setSlot_plans (n : Nat) (v : Slot) : (s.setSlot n v).plans = s.plans := rfl

@[simp] theorem State.setSlot_band (n : Nat) (v : Slot) : (s.setSlot n v).band = s.band := rfl

@[simp] theorem State.setSlot_globalPeriod (n : Nat) (v : Slot) : (s.setSlot n v).globalPeriod = s.globalPeriod := rfl

@[simp] theorem State.setSlot_walk (n : Nat) (v : Slot) : (s.setSlot n v).walk = s.walk := rfl

@[simp] theorem State.setSlot_unheld (n : Nat) (v : Slot) : (s.setSlot n v).unheld = s.unheld := rfl

@[simp] theorem State.setSlot_control (n : Nat) (v : Slot) : (s.setSlot n v).control = s.control := rfl

@[simp] theorem State.setSlot_portA (n : Nat) (v : Slot) : (s.setSlot n v).portA = s.portA := rfl

@[simp] theorem State.setSlot_portB (n : Nat) (v : Slot) : (s.setSlot n v).portB = s.portB := rfl

/-! ### modSub -/

@[simp] theorem State.modSub_pending (n : Nat) (f : Subscriber → Subscriber) : (s.modSub n f).pending = s.pending := by
  unfold State.modSub; split <;> rfl

@[simp] theorem State.modSub_part (n : Nat) (f : Subscriber → Subscriber) : (s.modSub n f).part = s.part := by
  unfold State.modSub; split <;> rfl

@[simp] theorem State.modSub_startUp (n : Nat) (f : Subscriber → Subscriber) : (s.modSub n f).startUp = s.startUp := by
  unfold State.modSub; split <;> rfl

@[simp] theorem State.modSub_ms (n : Nat) (f : Subscriber → Subscriber) : (s.modSub n f).ms = s.ms := by
  unfold State.modSub; split <;> rfl

@[simp] theorem State.modSub_clock (n : Nat) (f : Subscriber → Subscriber) : (s.modSub n f).clock = s.clock := by
  unfold State.modSub; split <;> rfl

@[simp] theorem State.modSub_due (n : Nat) (f : Subscriber → Subscriber) : (s.modSub n f).due = s.due := by
  unfold State.modSub; split <;> rfl

@[simp] theorem State.modSub_settings (n : Nat) (f : Subscriber → Subscriber) : (s.modSub n f).settings = s.settings := by
  unfold State.modSub; split <;> rfl

@[simp] theorem State.modSub_numbers (n : Nat) (f : Subscriber → Subscriber) : (s.modSub n f).numbers = s.numbers := by
  unfold State.modSub; split <;> rfl

@[simp] theorem State.modSub_pagers (n : Nat) (f : Subscriber → Subscriber) : (s.modSub n f).pagers = s.pagers := by
  unfold State.modSub; split <;> rfl

@[simp] theorem State.modSub_tags (n : Nat) (f : Subscriber → Subscriber) : (s.modSub n f).tags = s.tags := by
  unfold State.modSub; split <;> rfl

@[simp] theorem State.modSub_tagFree (n : Nat) (f : Subscriber → Subscriber) : (s.modSub n f).tagFree = s.tagFree := by
  unfold State.modSub; split <;> rfl

@[simp] theorem State.modSub_coolDown (n : Nat) (f : Subscriber → Subscriber) : (s.modSub n f).coolDown = s.coolDown := by
  unfold State.modSub; split <;> rfl

@[simp] theorem State.modSub_msgs (n : Nat) (f : Subscriber → Subscriber) : (s.modSub n f).msgs = s.msgs := by
  unfold State.modSub; split <;> rfl

@[simp] theorem State.modSub_freePlaces (n : Nat) (f : Subscriber → Subscriber) : (s.modSub n f).freePlaces = s.freePlaces := by
  unfold State.modSub; split <;> rfl

@[simp] theorem State.modSub_freeBlocks (n : Nat) (f : Subscriber → Subscriber) : (s.modSub n f).freeBlocks = s.freeBlocks := by
  unfold State.modSub; split <;> rfl

@[simp] theorem State.modSub_dueCal (n : Nat) (f : Subscriber → Subscriber) : (s.modSub n f).dueCal = s.dueCal := by
  unfold State.modSub; split <;> rfl

@[simp] theorem State.modSub_expiryCal (n : Nat) (f : Subscriber → Subscriber) : (s.modSub n f).expiryCal = s.expiryCal := by
  unfold State.modSub; split <;> rfl

@[simp] theorem State.modSub_nextSerial (n : Nat) (f : Subscriber → Subscriber) : (s.modSub n f).nextSerial = s.nextSerial := by
  unfold State.modSub; split <;> rfl

@[simp] theorem State.modSub_lines (n : Nat) (f : Subscriber → Subscriber) : (s.modSub n f).lines = s.lines := by
  unfold State.modSub; split <;> rfl

@[simp] theorem State.modSub_zones (n : Nat) (f : Subscriber → Subscriber) : (s.modSub n f).zones = s.zones := by
  unfold State.modSub; split <;> rfl

@[simp] theorem State.modSub_deferrals (n : Nat) (f : Subscriber → Subscriber) : (s.modSub n f).deferrals = s.deferrals := by
  unfold State.modSub; split <;> rfl

@[simp] theorem State.modSub_promotions (n : Nat) (f : Subscriber → Subscriber) : (s.modSub n f).promotions = s.promotions := by
  unfold State.modSub; split <;> rfl

@[simp] theorem State.modSub_replyLinks (n : Nat) (f : Subscriber → Subscriber) : (s.modSub n f).replyLinks = s.replyLinks := by
  unfold State.modSub; split <;> rfl

@[simp] theorem State.modSub_merge (n : Nat) (f : Subscriber → Subscriber) : (s.modSub n f).merge = s.merge := by
  unfold State.modSub; split <;> rfl

@[simp] theorem State.modSub_offerWait (n : Nat) (f : Subscriber → Subscriber) : (s.modSub n f).offerWait = s.offerWait := by
  unfold State.modSub; split <;> rfl

@[simp] theorem State.modSub_replyCounts (n : Nat) (f : Subscriber → Subscriber) : (s.modSub n f).replyCounts = s.replyCounts := by
  unfold State.modSub; split <;> rfl

@[simp] theorem State.modSub_retryCounts (n : Nat) (f : Subscriber → Subscriber) : (s.modSub n f).retryCounts = s.retryCounts := by
  unfold State.modSub; split <;> rfl

@[simp] theorem State.modSub_plans (n : Nat) (f : Subscriber → Subscriber) : (s.modSub n f).plans = s.plans := by
  unfold State.modSub; split <;> rfl

@[simp] theorem State.modSub_band (n : Nat) (f : Subscriber → Subscriber) : (s.modSub n f).band = s.band := by
  unfold State.modSub; split <;> rfl

@[simp] theorem State.modSub_globalPeriod (n : Nat) (f : Subscriber → Subscriber) : (s.modSub n f).globalPeriod = s.globalPeriod := by
  unfold State.modSub; split <;> rfl

@[simp] theorem State.modSub_walk (n : Nat) (f : Subscriber → Subscriber) : (s.modSub n f).walk = s.walk := by
  unfold State.modSub; split <;> rfl

@[simp] theorem State.modSub_unheld (n : Nat) (f : Subscriber → Subscriber) : (s.modSub n f).unheld = s.unheld := by
  unfold State.modSub; split <;> rfl

@[simp] theorem State.modSub_control (n : Nat) (f : Subscriber → Subscriber) : (s.modSub n f).control = s.control := by
  unfold State.modSub; split <;> rfl

@[simp] theorem State.modSub_portA (n : Nat) (f : Subscriber → Subscriber) : (s.modSub n f).portA = s.portA := by
  unfold State.modSub; split <;> rfl

@[simp] theorem State.modSub_portB (n : Nat) (f : Subscriber → Subscriber) : (s.modSub n f).portB = s.portB := by
  unfold State.modSub; split <;> rfl

/-! ### modMsg -/

@[simp] theorem State.modMsg_pending (n : Nat) (f : Message → Message) : (s.modMsg n f).pending = s.pending := by
  unfold State.modMsg; split <;> rfl

@[simp] theorem State.modMsg_part (n : Nat) (f : Message → Message) : (s.modMsg n f).part = s.part := by
  unfold State.modMsg; split <;> rfl

@[simp] theorem State.modMsg_startUp (n : Nat) (f : Message → Message) : (s.modMsg n f).startUp = s.startUp := by
  unfold State.modMsg; split <;> rfl

@[simp] theorem State.modMsg_ms (n : Nat) (f : Message → Message) : (s.modMsg n f).ms = s.ms := by
  unfold State.modMsg; split <;> rfl

@[simp] theorem State.modMsg_clock (n : Nat) (f : Message → Message) : (s.modMsg n f).clock = s.clock := by
  unfold State.modMsg; split <;> rfl

@[simp] theorem State.modMsg_due (n : Nat) (f : Message → Message) : (s.modMsg n f).due = s.due := by
  unfold State.modMsg; split <;> rfl

@[simp] theorem State.modMsg_settings (n : Nat) (f : Message → Message) : (s.modMsg n f).settings = s.settings := by
  unfold State.modMsg; split <;> rfl

@[simp] theorem State.modMsg_slots (n : Nat) (f : Message → Message) : (s.modMsg n f).slots = s.slots := by
  unfold State.modMsg; split <;> rfl

@[simp] theorem State.modMsg_numbers (n : Nat) (f : Message → Message) : (s.modMsg n f).numbers = s.numbers := by
  unfold State.modMsg; split <;> rfl

@[simp] theorem State.modMsg_pagers (n : Nat) (f : Message → Message) : (s.modMsg n f).pagers = s.pagers := by
  unfold State.modMsg; split <;> rfl

@[simp] theorem State.modMsg_tags (n : Nat) (f : Message → Message) : (s.modMsg n f).tags = s.tags := by
  unfold State.modMsg; split <;> rfl

@[simp] theorem State.modMsg_tagFree (n : Nat) (f : Message → Message) : (s.modMsg n f).tagFree = s.tagFree := by
  unfold State.modMsg; split <;> rfl

@[simp] theorem State.modMsg_coolDown (n : Nat) (f : Message → Message) : (s.modMsg n f).coolDown = s.coolDown := by
  unfold State.modMsg; split <;> rfl

@[simp] theorem State.modMsg_freePlaces (n : Nat) (f : Message → Message) : (s.modMsg n f).freePlaces = s.freePlaces := by
  unfold State.modMsg; split <;> rfl

@[simp] theorem State.modMsg_freeBlocks (n : Nat) (f : Message → Message) : (s.modMsg n f).freeBlocks = s.freeBlocks := by
  unfold State.modMsg; split <;> rfl

@[simp] theorem State.modMsg_dueCal (n : Nat) (f : Message → Message) : (s.modMsg n f).dueCal = s.dueCal := by
  unfold State.modMsg; split <;> rfl

@[simp] theorem State.modMsg_expiryCal (n : Nat) (f : Message → Message) : (s.modMsg n f).expiryCal = s.expiryCal := by
  unfold State.modMsg; split <;> rfl

@[simp] theorem State.modMsg_nextSerial (n : Nat) (f : Message → Message) : (s.modMsg n f).nextSerial = s.nextSerial := by
  unfold State.modMsg; split <;> rfl

@[simp] theorem State.modMsg_lines (n : Nat) (f : Message → Message) : (s.modMsg n f).lines = s.lines := by
  unfold State.modMsg; split <;> rfl

@[simp] theorem State.modMsg_zones (n : Nat) (f : Message → Message) : (s.modMsg n f).zones = s.zones := by
  unfold State.modMsg; split <;> rfl

@[simp] theorem State.modMsg_deferrals (n : Nat) (f : Message → Message) : (s.modMsg n f).deferrals = s.deferrals := by
  unfold State.modMsg; split <;> rfl

@[simp] theorem State.modMsg_promotions (n : Nat) (f : Message → Message) : (s.modMsg n f).promotions = s.promotions := by
  unfold State.modMsg; split <;> rfl

@[simp] theorem State.modMsg_replyLinks (n : Nat) (f : Message → Message) : (s.modMsg n f).replyLinks = s.replyLinks := by
  unfold State.modMsg; split <;> rfl

@[simp] theorem State.modMsg_merge (n : Nat) (f : Message → Message) : (s.modMsg n f).merge = s.merge := by
  unfold State.modMsg; split <;> rfl

@[simp] theorem State.modMsg_offerWait (n : Nat) (f : Message → Message) : (s.modMsg n f).offerWait = s.offerWait := by
  unfold State.modMsg; split <;> rfl

@[simp] theorem State.modMsg_replyCounts (n : Nat) (f : Message → Message) : (s.modMsg n f).replyCounts = s.replyCounts := by
  unfold State.modMsg; split <;> rfl

@[simp] theorem State.modMsg_retryCounts (n : Nat) (f : Message → Message) : (s.modMsg n f).retryCounts = s.retryCounts := by
  unfold State.modMsg; split <;> rfl

@[simp] theorem State.modMsg_plans (n : Nat) (f : Message → Message) : (s.modMsg n f).plans = s.plans := by
  unfold State.modMsg; split <;> rfl

@[simp] theorem State.modMsg_band (n : Nat) (f : Message → Message) : (s.modMsg n f).band = s.band := by
  unfold State.modMsg; split <;> rfl

@[simp] theorem State.modMsg_globalPeriod (n : Nat) (f : Message → Message) : (s.modMsg n f).globalPeriod = s.globalPeriod := by
  unfold State.modMsg; split <;> rfl

@[simp] theorem State.modMsg_walk (n : Nat) (f : Message → Message) : (s.modMsg n f).walk = s.walk := by
  unfold State.modMsg; split <;> rfl

@[simp] theorem State.modMsg_unheld (n : Nat) (f : Message → Message) : (s.modMsg n f).unheld = s.unheld := by
  unfold State.modMsg; split <;> rfl

@[simp] theorem State.modMsg_control (n : Nat) (f : Message → Message) : (s.modMsg n f).control = s.control := by
  unfold State.modMsg; split <;> rfl

@[simp] theorem State.modMsg_portA (n : Nat) (f : Message → Message) : (s.modMsg n f).portA = s.portA := by
  unfold State.modMsg; split <;> rfl

@[simp] theorem State.modMsg_portB (n : Nat) (f : Message → Message) : (s.modMsg n f).portB = s.portB := by
  unfold State.modMsg; split <;> rfl

/-! ### The own fields -/

@[simp] theorem State.modPort_port_self (p : Port) (f : PortUnit → PortUnit) :
    (s.modPort p f).port p = f (s.port p) := by
  cases p <;> rfl

@[simp] theorem State.modPort_port_other (p : Port) (f : PortUnit → PortUnit) :
    (s.modPort p f).port p.other = s.port p.other := by
  cases p <;> rfl

theorem State.modPort_port (p q : Port) (f : PortUnit → PortUnit) :
    (s.modPort p f).port q = if q = p then f (s.port q) else s.port q := by
  cases p <;> cases q <;> rfl

@[simp] theorem State.modPort_A_portA (f : PortUnit → PortUnit) : (s.modPort .A f).portA = f s.portA := rfl

@[simp] theorem State.modPort_A_portB (f : PortUnit → PortUnit) : (s.modPort .A f).portB = s.portB := rfl

@[simp] theorem State.modPort_B_portA (f : PortUnit → PortUnit) : (s.modPort .B f).portA = s.portA := rfl

@[simp] theorem State.modPort_B_portB (f : PortUnit → PortUnit) : (s.modPort .B f).portB = f s.portB := rfl

@[simp] theorem State.modLine_line_self (l : Fin 8) (f : Line → Line) : (s.modLine l f).line l = f (s.line l) := by
  simp [State.modLine, State.line]

theorem State.modLine_line (l k : Fin 8) (f : Line → Line) :
    (s.modLine l f).line k = if k = l then f (s.line k) else s.line k := by
  by_cases h : k = l
  · subst h; simp
  · have h' : l.val ≠ k.val := fun e => h (Fin.ext e.symm)
    simp [State.modLine, State.line, h, h']

@[simp] theorem State.modZone_zone_self (z : Fin 8) (f : Zone → Zone) : (s.modZone z f).zone z = f (s.zone z) := by
  simp [State.modZone, State.zone]

theorem State.modZone_zone (z k : Fin 8) (f : Zone → Zone) :
    (s.modZone z f).zone k = if k = z then f (s.zone k) else s.zone k := by
  by_cases h : k = z
  · subst h; simp
  · have h' : z.val ≠ k.val := fun e => h (Fin.ext e.symm)
    simp [State.modZone, State.zone, h, h']

@[simp] theorem State.modZones_zone (f : Fin 8 → Zone → Zone) (z : Fin 8) :
    (s.modZones f).zone z = f z (s.zone z) := by
  simp [State.modZones, State.zone]

@[simp] theorem State.modReplyLink_replyLink_self (k : Fin 4) (f : ReplyLink → ReplyLink) :
    (s.modReplyLink k f).replyLink k = f (s.replyLink k) := by
  simp [State.modReplyLink, State.replyLink]

theorem State.modReplyLink_replyLink (k j : Fin 4) (f : ReplyLink → ReplyLink) :
    (s.modReplyLink k f).replyLink j = if j = k then f (s.replyLink j) else s.replyLink j := by
  by_cases h : j = k
  · subst h; simp
  · have h' : k.val ≠ j.val := fun e => h (Fin.ext e.symm)
    simp [State.modReplyLink, State.replyLink, h, h']

/-! ### Ports are read through the other accessors unchanged -/

@[simp] theorem State.modLine_port (l : Fin 8) (f : Line → Line) (p : Port) : (s.modLine l f).port p = s.port p := by cases p <;> rfl

@[simp] theorem State.modZone_port (z : Fin 8) (f : Zone → Zone) (p : Port) : (s.modZone z f).port p = s.port p := by cases p <;> rfl

@[simp] theorem State.modZones_port (f : Fin 8 → Zone → Zone) (p : Port) : (s.modZones f).port p = s.port p := by cases p <;> rfl

@[simp] theorem State.modReplyLink_port (k : Fin 4) (f : ReplyLink → ReplyLink) (p : Port) : (s.modReplyLink k f).port p = s.port p := by cases p <;> rfl

@[simp] theorem State.setSlot_port (n : Nat) (v : Slot) (p : Port) : (s.setSlot n v).port p = s.port p := by cases p <;> rfl

@[simp] theorem State.modSub_port (n : Nat) (f : Subscriber → Subscriber) (p : Port) : (s.modSub n f).port p = s.port p := by
  unfold State.modSub; split <;> rfl

@[simp] theorem State.modMsg_port (n : Nat) (f : Message → Message) (p : Port) : (s.modMsg n f).port p = s.port p := by
  unfold State.modMsg; split <;> rfl

@[simp] theorem State.modPort_line (p : Port) (f : PortUnit → PortUnit) (l : Fin 8) : (s.modPort p f).line l = s.line l := by cases p <;> rfl

@[simp] theorem State.modZone_line (z : Fin 8) (f : Zone → Zone) (l : Fin 8) : (s.modZone z f).line l = s.line l := rfl

@[simp] theorem State.modZones_line (f : Fin 8 → Zone → Zone) (l : Fin 8) : (s.modZones f).line l = s.line l := rfl

@[simp] theorem State.modReplyLink_line (k : Fin 4) (f : ReplyLink → ReplyLink) (l : Fin 8) : (s.modReplyLink k f).line l = s.line l := rfl

@[simp] theorem State.setSlot_line (n : Nat) (v : Slot) (l : Fin 8) : (s.setSlot n v).line l = s.line l := rfl

@[simp] theorem State.modSub_line (n : Nat) (f : Subscriber → Subscriber) (l : Fin 8) : (s.modSub n f).line l = s.line l := by
  unfold State.modSub; split <;> rfl

@[simp] theorem State.modMsg_line (n : Nat) (f : Message → Message) (l : Fin 8) : (s.modMsg n f).line l = s.line l := by
  unfold State.modMsg; split <;> rfl

@[simp] theorem State.modPort_zone (p : Port) (f : PortUnit → PortUnit) (z : Fin 8) : (s.modPort p f).zone z = s.zone z := by cases p <;> rfl

@[simp] theorem State.modLine_zone (l : Fin 8) (f : Line → Line) (z : Fin 8) : (s.modLine l f).zone z = s.zone z := rfl

@[simp] theorem State.modReplyLink_zone (k : Fin 4) (f : ReplyLink → ReplyLink) (z : Fin 8) : (s.modReplyLink k f).zone z = s.zone z := rfl

@[simp] theorem State.setSlot_zone (n : Nat) (v : Slot) (z : Fin 8) : (s.setSlot n v).zone z = s.zone z := rfl

@[simp] theorem State.modSub_zone (n : Nat) (f : Subscriber → Subscriber) (z : Fin 8) : (s.modSub n f).zone z = s.zone z := by
  unfold State.modSub; split <;> rfl

@[simp] theorem State.modMsg_zone (n : Nat) (f : Message → Message) (z : Fin 8) : (s.modMsg n f).zone z = s.zone z := by
  unfold State.modMsg; split <;> rfl

end Sys2Proof.Machine
end

