-- ==== Sys2Proof/Laws/Header.lean ====
section
/-! SUPPORT. The end of an event: what the header writes of section 11.2 can do, said once (`finish_endsAs`). -/

namespace Sys2Proof.Machine

@[simp] theorem leBytes_length (n x : Nat) : (leBytes n x).length = n := by
  induction n generalizing x with
  | zero => rfl
  | succ n ih => simp [leBytes, ih]

@[simp] theorem beBytes_length (n x : Nat) : (beBytes n x).length = n := by
  simp [beBytes]

theorem lastBuildBytes_length (o : Option (Nat × Nat)) : (lastBuildBytes o).length = 2 := by
  rcases o with _ | ⟨_, _⟩ <;> rfl

/-- A field lies in one of the two header parts. -/
def fieldInHeader (f : Nat × List Byte) : Prop :=
  f.1 + f.2.length ≤ 0x100 ∨ (0x200 ≤ f.1 ∧ f.1 + f.2.length ≤ 0x400)

theorem faultFields_inHeader (u : PortUnit) : ∀ f ∈ faultFields u, fieldInHeader f := by
  intro f hf
  unfold faultFields at hf
  split at hf <;>
    simp only [List.mem_cons, List.not_mem_nil, or_false] at hf <;>
    rcases hf with rfl | rfl | rfl | rfl <;> simp [fieldInHeader]

theorem lineFields_inHeader (l : Fin 8) (x : Line) : ∀ f ∈ lineFields (0x20 + 8 * l.val) x, fieldInHeader f := by
  intro f hf
  have hl := l.isLt
  simp only [lineFields, List.mem_cons, List.not_mem_nil, or_false] at hf
  rcases hf with rfl | rfl | rfl | rfl | rfl <;> simp [fieldInHeader] <;> omega

theorem zoneFields_inHeader (z : Fin 8) (x : Zone) : ∀ f ∈ zoneFields (0x60 + 16 * z.val) x, fieldInHeader f := by
  intro f hf
  have hz := z.isLt
  simp only [zoneFields, List.mem_cons, List.not_mem_nil, or_false] at hf
  rcases hf with rfl | rfl | rfl | rfl | rfl | rfl | rfl | rfl | rfl | rfl <;>
    simp [fieldInHeader, lastBuildBytes_length] <;> omega

theorem identFields_inHeader : ∀ f ∈ identFields, fieldInHeader f := by
  intro f hf
  simp only [identFields, List.mem_cons, List.not_mem_nil, or_false] at hf
  rcases hf with rfl | rfl | rfl <;> simp [fieldInHeader]

theorem statusFields_inHeader (p : Port) (s : State) : ∀ f ∈ statusFields p s, fieldInHeader f := by
  intro f hf
  simp only [statusFields, List.mem_append, List.mem_flatMap] at hf
  rcases hf with (((((hf | hf) | ⟨l, -, hf⟩) | ⟨z, -, hf⟩) | hf) | ⟨k, -, hf⟩) | hf
  · exact faultFields_inHeader _ f hf
  · simp only [List.mem_cons, List.not_mem_nil, or_false] at hf
    rcases hf with rfl | rfl | rfl | rfl | rfl | rfl | rfl | rfl <;> simp [fieldInHeader]
  · exact lineFields_inHeader _ _ f hf
  · exact zoneFields_inHeader _ _ f hf
  · simp only [List.mem_cons, List.not_mem_nil, or_false] at hf
    rcases hf with rfl | rfl | rfl | rfl | rfl | rfl | rfl | rfl | rfl | rfl | rfl | rfl | rfl | rfl | rfl | rfl <;>
      simp [fieldInHeader]
  · have hk := k.isLt
    simp only [List.mem_cons, List.not_mem_nil, or_false] at hf
    rcases hf with rfl | rfl <;> simp [fieldInHeader] <;> omega
  · simp only [List.mem_cons, List.not_mem_nil, or_false] at hf
    rcases hf with rfl | rfl | rfl | rfl | rfl | rfl | rfl | rfl <;> simp [fieldInHeader]

theorem headerFields_inHeader (p : Port) (s : State) : ∀ f ∈ headerFields p s, fieldInHeader f := by
  intro f hf
  rcases List.mem_append.1 hf with hf | hf
  · exact identFields_inHeader f hf
  · exact statusFields_inHeader p s f hf

theorem changedFields_mem {old new : List (Nat × List Byte)} {f : Nat × List Byte} (h : f ∈ changedFields old new) :
    f ∈ new := by
  simp only [changedFields, List.mem_map, List.mem_filter] at h
  obtain ⟨⟨a, b⟩, ⟨hz, -⟩, rfl⟩ := h
  exact (List.of_mem_zip hz).2

/-- What a header write leaves alone at every port: the bare unit; the faults too, where it met no bus error; and every
byte outside the headers. -/
structure HeaderStep (p : Port) (err : Bool) (e t : State) : Prop where
  rest   : ∀ q, (t.port q).bare = (e.port q).bare
  others : { t with portA := e.portA, portB := e.portB } = e
  other  : t.port p.other = e.port p.other
  faults : err = false → (t.port p).faults = (e.port p).faults
  memory : ∀ a, ¬ headerByte (e.port p).area a → memRead a (t.port p).hostMem = memRead a (e.port p).hostMem
  area   : ∀ q, (t.port q).area = (e.port q).area

theorem HeaderStep.refl (p : Port) (err : Bool) (e : State) : HeaderStep p err e e :=
  ⟨fun _ => rfl, rfl, rfl, fun _ => rfl, fun _ _ => rfl, fun _ => rfl⟩

theorem notice_or_fault_bare (n : BitVec 10) :
    (n ||| Notice.fault.mask) &&& ~~~Notice.fault.mask = n &&& ~~~Notice.fault.mask := by
  ext i h
  simp only [BitVec.getElem_and, BitVec.getElem_or, BitVec.getElem_not]
  cases n[i] <;> cases (Notice.fault.mask)[i] <;> rfl

/-- A capture changes nothing but the fault state of its port. -/
theorem capture_headerStep (p : Port) (k : FaultKind) (i : Nat) (e : State) : HeaderStep p true e (capture p k i e) := by
  unfold capture raise
  split
  · refine ⟨fun q => ?_, ?_, ?_, (by intro h; cases h), fun a _ => ?_, fun q => ?_⟩
    · cases p <;> cases q <;> rfl
    · cases p <;> rfl
    · cases p <;> rfl
    · cases p <;> rfl
    · cases p <;> cases q <;> rfl
  · refine ⟨fun q => ?_, ?_, ?_, (by intro h; cases h), fun a _ => ?_, fun q => ?_⟩
    · cases p <;> cases q <;> simp [PortUnit.bare, State.port, State.modPort, notice_or_fault_bare]
    · cases p <;> rfl
    · cases p <;> rfl
    · cases p <;> rfl
    · cases p <;> cases q <;> rfl

/-- A write of header fields changes nothing but header bytes. -/
theorem writeFields_headerStep (p : Port) (err : Bool) (e : State) (base : Nat) (fs : List (Nat × List Byte))
    (hb : (e.port p).area = some base) (hf : ∀ f ∈ fs, fieldInHeader f) :
    HeaderStep p err e (e.modPort p fun u => { u with hostMem := writeFields base fs u.hostMem }) := by
  refine ⟨fun q => ?_, ?_, ?_, fun _ => ?_, fun a ha => ?_, fun q => ?_⟩
  · cases p <;> cases q <;> rfl
  · cases p <;> rfl
  · cases p <;> rfl
  · cases p <;> rfl
  · rw [State.modPort_port_self]
    refine memRead_writeFields_outside _ _ fun f hm => ?_
    have hin := hf f hm
    by_contra hc
    refine ha ⟨base, hb, ?_⟩
    unfold fieldInHeader at hin
    omega
  · cases p <;> cases q <;> rfl

theorem syncHeader_headerStep (p : Port) (full err : Bool) (s e : State) :
    HeaderStep p err e (syncHeader p full err s e) := by
  unfold syncHeader
  split
  · exact .refl _ _ _
  · rename_i base hb
    have hf : ∀ f ∈ (if full then headerFields p e else changedFields (statusFields p s) (statusFields p e)),
        fieldInHeader f := by
      intro f hf
      split at hf
      · exact headerFields_inHeader _ _ f hf
      · exact statusFields_inHeader _ _ f (changedFields_mem hf)
    dsimp only
    generalize (if full then headerFields p e else changedFields (statusFields p s) (statusFields p e)) = fs at hf
    by_cases h1 : fs = []
    · rw [if_pos h1]; exact .refl _ _ _
    · rw [if_neg h1]
      cases err with
      | true => exact capture_headerStep _ _ _ _
      | false => exact writeFields_headerStep _ _ _ _ _ hb hf

theorem bare_eq_iff {s t : State} (h : { t with portA := s.portA, portB := s.portB } = s)
    (hA : t.portA.bare = s.portA.bare) (hB : t.portB.bare = s.portB.bare) : t.bare = s.bare := by
  have h' := congrArg (fun x : State => { x with portA := t.portA.bare, portB := t.portB.bare }) h
  simp only [State.bare]
  rw [hA, hB] at h'
  rw [hA, hB]
  exact h'

/-- The end of an event answers a next state, and changes nothing but by header writes: the one lemma about `finish`. -/
theorem finishFull_endsAs (fullA fullB : Bool) (b : Bus) (s e : State) :
    ∃ t, finishFull fullA fullB b s e = .next t ∧ EndsAs b e t := by
  refine ⟨_, rfl, ?_⟩
  have h1 := syncHeader_headerStep .A fullA b.headerA s e
  have h2 := syncHeader_headerStep .B fullB b.headerB s (syncHeader .A fullA b.headerA s e)
  generalize syncHeader .A fullA b.headerA s e = m at h1 h2
  generalize syncHeader .B fullB b.headerB s m = t at h2
  refine ⟨bare_eq_iff ?_ ((h2.rest .A).trans (h1.rest .A)) ((h2.rest .B).trans (h1.rest .B)), ?_, ?_, ?_⟩
  · have a := congrArg (fun x : State => { x with portA := e.portA, portB := e.portB }) h2.others
    exact a.trans h1.others
  · intro hb
    have a : t.portA = m.portA := h2.other
    rw [a]; exact h1.faults hb
  · intro hb
    have a : m.portB = e.portB := h1.other
    have := h2.faults hb
    simp only [State.port] at this
    rw [this, a]
  · intro p a ha
    cases p with
    | A =>
      have h : t.portA = m.portA := h2.other
      simp only [State.port, h]
      exact h1.memory a ha
    | B =>
      have h : m.portB = e.portB := h1.other
      have := h2.memory a (by simpa [State.port, h] using ha)
      simp only [State.port] at this ⊢
      rw [this, h]

theorem finish_endsAs (b : Bus) (s e : State) : ∃ t, finish b s e = .next t ∧ EndsAs b e t :=
  finishFull_endsAs false false b s e

theorem finishPort_endsAs (p : Port) (b : Bus) (s e : State) : ∃ t, finishPort p b s e = .next t ∧ EndsAs b e t := by
  cases p
  · exact finishFull_endsAs true false b s e
  · exact finishFull_endsAs false true b s e

/-- The state after an event that ends with header writes: the inversion of `finish`. -/
theorem finish_inv {b : Bus} {s e t : State} (h : finish b s e = .next t) : EndsAs b e t := by
  obtain ⟨t', h', he⟩ := finish_endsAs b s e
  rw [h'] at h
  cases h
  exact he

theorem finishPort_inv {p : Port} {b : Bus} {s e t : State} (h : finishPort p b s e = .next t) : EndsAs b e t := by
  obtain ⟨t', h', he⟩ := finishPort_endsAs p b s e
  rw [h'] at h
  cases h
  exact he

/-- A command whose event is `finish` of a state completes with that state. -/
theorem Completes.of_finish {c : Instr} {b : Bus} {s e : State} (h : exec c s = finish b s e) : Completes c b s e := by
  obtain ⟨t, ht, he⟩ := finish_endsAs b s e
  exact ⟨t, h.trans ht, he⟩

/-- The same for an event in which one port writes its whole header. -/
theorem Completes.of_finishPort {c : Instr} {p : Port} {b : Bus} {s e : State} (h : exec c s = finishPort p b s e) :
    Completes c b s e := by
  obtain ⟨t, ht, he⟩ := finishPort_endsAs p b s e
  exact ⟨t, h.trans ht, he⟩

/-- An event that is not taken changes nothing. -/
theorem EndsAs.refl (b : Bus) (e : State) : EndsAs b e e :=
  ⟨rfl, fun _ => rfl, fun _ => rfl, fun _ _ _ => rfl⟩

end Sys2Proof.Machine
end

