-- ==== Sys2Proof/Laws/Ops.lean ====
section
/-! SUPPORT. What each shared operation does, said once: slots, message records, calendars, notices, fault capture, report
items, re-dues, the cool-down list, tag release and the changes of lines and zones. Later proofs cite these and unfold none
of the operations. -/

namespace Sys2Proof.Machine

variable (s : State)

/-! ### Slots and message records -/

theorem State.slot_setSlot (n k : Nat) (v : Slot) : (s.setSlot n v).slot k = if k = n then v else s.slot k := by
  unfold State.setSlot State.slot
  by_cases hk : k = n
  · subst hk
    by_cases hv : v = { sub := none, finalCount := 0 } <;> simp [hv]
  · by_cases hv : v = { sub := none, finalCount := 0 } <;>
      simp [hv, hk, Assoc.get?_erase_ne hk, Assoc.get?_put_ne hk]

theorem State.sub?_setSlot (n k : Nat) (v : Slot) : (s.setSlot n v).sub? k = if k = n then v.sub else s.sub? k := by
  unfold State.sub?
  rw [State.slot_setSlot]
  split <;> rfl

theorem State.slot_modSub (n k : Nat) (f : Subscriber → Subscriber) :
    (s.modSub n f).slot k = if k = n then { s.slot n with sub := (s.sub? n).map f } else s.slot k := by
  unfold State.modSub
  split
  · rename_i h
    split
    · rename_i hk; subst hk
      have hs : (s.slot k).sub = none := h
      rw [h, Option.map_none, ← hs]
    · rfl
  · rename_i x h
    rw [State.slot_setSlot, h]
    rfl

theorem State.sub?_modSub (n k : Nat) (f : Subscriber → Subscriber) :
    (s.modSub n f).sub? k = if k = n then (s.sub? n).map f else s.sub? k := by
  unfold State.sub?
  rw [State.slot_modSub]
  split <;> rfl

@[simp] theorem State.modSub_slot_finalCount (n k : Nat) (f : Subscriber → Subscriber) :
    ((s.modSub n f).slot k).finalCount = (s.slot k).finalCount := by
  rw [State.slot_modSub]
  split
  · rename_i h; subst h; rfl
  · rfl

@[simp] theorem State.modSub_msg? (n k : Nat) (f : Subscriber → Subscriber) : (s.modSub n f).msg? k = s.msg? k := by
  unfold State.msg?; simp

@[simp] theorem State.setSlot_msg? (n k : Nat) (v : Slot) : (s.setSlot n v).msg? k = s.msg? k := by
  unfold State.msg?; simp

theorem State.msg?_modMsg (n k : Nat) (f : Message → Message) :
    (s.modMsg n f).msg? k = if k = n then (s.msg? n).map f else s.msg? k := by
  unfold State.modMsg
  split
  · rename_i h
    split
    · rename_i hk; subst hk; simp [h]
    · rfl
  · rename_i m h
    show Assoc.get? k (Assoc.put n (f m) s.msgs) = _
    rw [Assoc.get?_put, h]
    rfl

@[simp] theorem State.modMsg_slot (n k : Nat) (f : Message → Message) : (s.modMsg n f).slot k = s.slot k := by
  unfold State.slot; simp

@[simp] theorem State.modMsg_sub? (n k : Nat) (f : Message → Message) : (s.modMsg n f).sub? k = s.sub? k := by
  unfold State.sub?; simp

/-! ### Calendars and re-dues -/

theorem calList_calAdd (w x : Win) (serial : Nat) (cal : List (Nat × List Nat)) :
    calList x (calAdd w serial cal) = if x = w then calList w cal ++ [serial] else calList x cal := by
  rw [calAdd, calList_calSet]

theorem calList_calRemove (w x : Win) (serial : Nat) (cal : List (Nat × List Nat)) :
    calList x (calRemove w serial cal) = if x = w then (calList w cal).filter (· != serial) else calList x cal := by
  rw [calRemove, calList_calSet]

theorem leaveDue_msg? (serial k : Nat) :
    (leaveDue serial s).msg? k =
      if k = serial then (s.msg? serial).map fun m => { m with due := none } else s.msg? k := by
  unfold leaveDue
  split
  · rename_i h
    split
    · rename_i hk; subst hk; simp [h]
    · rfl
  · rename_i m h
    split
    · rename_i hd
      split
      · rename_i hk; subst hk
        simp only [h, Option.map_some, Option.some.injEq]
        rw [← hd]
      · rfl
    · rw [State.msg?_modMsg]
      rfl

theorem leaveDue_calList (serial : Nat) (x : Win) :
    calList x (leaveDue serial s).dueCal =
      if (s.msg? serial).bind Message.due = some x then (calList x s.dueCal).filter (· != serial)
      else calList x s.dueCal := by
  unfold leaveDue
  split
  · rename_i h; simp [h]
  · rename_i m h
    split
    · rename_i hd; simp [h, hd]
    · rename_i w hd
      simp only [State.modMsg_dueCal, calList_calRemove, h, hd, Option.bind_some, Option.some.injEq]
      by_cases hx : x = w
      · subst hx; simp
      · have : ¬ w = x := fun e => hx e.symm
        simp [hx, this]

/-- `leaveDue` changes nothing but the message's due window and the due calendar. -/
theorem leaveDue_rest (serial : Nat) :
    { leaveDue serial s with msgs := s.msgs, dueCal := s.dueCal } = s := by
  unfold leaveDue
  split
  · rfl
  · split
    · rfl
    · unfold State.modMsg
      split <;> rfl

theorem redue_msg? (serial k : Nat) (w : Win) :
    (redue serial w s).msg? k =
      if k = serial then (s.msg? serial).map fun m => { m with due := some w } else s.msg? k := by
  have h := leaveDue_msg? s serial
  unfold redue
  simp only
  split
  · rename_i hn
    have h1 : s.msg? serial = none := by simpa [hn] using (h serial).symm
    split
    · rename_i hk; subst hk; simp [hn, h1]
    · rename_i hk; simpa [hk] using h k
  · rename_i m hm
    rw [State.msg?_modMsg]
    have e : ∀ j, State.msg? { leaveDue serial s with dueCal := calAdd w serial (leaveDue serial s).dueCal } j =
        (leaveDue serial s).msg? j := fun _ => rfl
    rw [e, e, h, h]
    by_cases hk : k = serial
    · simp [hk, Function.comp_def]
    · simp [hk]

/-- `redue` changes nothing but the message's due window and the due calendar. -/
theorem redue_rest (serial : Nat) (w : Win) :
    { redue serial w s with msgs := s.msgs, dueCal := s.dueCal } = s := by
  have h := leaveDue_rest s serial
  unfold redue
  simp only
  split
  · exact h
  · unfold State.modMsg
    split
    · exact h
    · exact h

/-! ### Notices, fault capture and report items -/

theorem raise_port (n : Notice) (p q : Port) :
    (raise n p s).port q =
      if q = p then { s.port q with notice := (s.port q).notice ||| n.mask } else s.port q := by
  rw [raise, State.modPort_port]

theorem raiseBoth_port (n : Notice) (q : Port) :
    (raiseBoth n s).port q = { s.port q with notice := (s.port q).notice ||| n.mask } := by
  cases q <;> rfl

theorem raiseBoth_rest (n : Notice) : { raiseBoth n s with portA := s.portA, portB := s.portB } = s := rfl

theorem capture_unlocked {p : Port} {s : State} (kind : FaultKind) (index : Nat) (h : (s.port p).locked = false) :
    capture p kind index s = s.modPort p fun u =>
      { u with faultWord := some { kind := kind, index := index, number := u.nextNumber }, faultCount := 1, locked := true,
               notice := u.notice ||| Notice.fault.mask } := by
  unfold capture raise
  rw [h]
  cases p <;> rfl

theorem capture_locked {p : Port} {s : State} (kind : FaultKind) (index : Nat) (h : (s.port p).locked = true) :
    capture p kind index s = s.modPort p fun u => { u with faultCount := satAdd 255 u.faultCount 1 } := by
  unfold capture
  rw [h]
  rfl

theorem emitAt_below {it : Item} {p : Port} {s : State} (h : (s.port p).backlog < 64) :
    emitAt it p s = s.modPort p fun u => { u with queue := u.queue ++ [it] } := by
  cases p <;> simp_all [emitAt, State.modPort, State.port]

theorem emitAt_full {it : Item} {p : Port} {s : State} (h : 64 ≤ (s.port p).backlog) :
    emitAt it p s = s.modPort p fun u => { u with dropped := satAdd 65535 u.dropped 1, gap := true } := by
  have h' : ¬ (s.port p).backlog < 64 := by omega
  cases p <;> simp_all [emitAt, State.modPort, State.port]

theorem emitAccounting_held {it : Item} {p : Port} {s : State} (h : s.control.holder = some p) :
    emitAccounting it s = s.modPort p fun u => { u with queue := u.queue ++ [it] } := by
  unfold emitAccounting
  rw [h]
  rfl

theorem emitAccounting_unheld {it : Item} {s : State} (h : s.control.holder = none) :
    emitAccounting it s = { s with unheld := s.unheld ++ [it] } := by
  unfold emitAccounting
  rw [h]

/-! ### The cool-down list, control items and tag release -/

theorem mem_coolSet {tag : Nat} {w : Win} {l : List (Nat × Option Win)} {e : Nat × Option Win} :
    e ∈ coolSet tag w l ↔ (e.1 ≠ tag ∧ e ∈ l) ∨ (e = (tag, some w) ∧ ∃ x, (tag, x) ∈ l) := by
  unfold coolSet
  rw [List.mem_map]
  constructor
  · rintro ⟨a, ha, rfl⟩
    split
    · rename_i h
      exact .inr ⟨by rw [h], a.2, by rw [← h]; exact ha⟩
    · rename_i h
      exact .inl ⟨h, ha⟩
  · rintro (⟨h, he⟩ | ⟨rfl, x, hx⟩)
    · exact ⟨e, he, by simp [h]⟩
    · exact ⟨(tag, x), hx, by simp⟩

/-- `coolSet` keeps the tags of the list. -/
theorem coolSet_keys (tag : Nat) (w : Win) (l : List (Nat × Option Win)) :
    (coolSet tag w l).map Prod.fst = l.map Prod.fst := by
  unfold coolSet
  rw [List.map_map]
  refine List.map_congr_left fun e _ => ?_
  simp only [Function.comp_apply]
  split <;> rfl

theorem unplace_rest (slot : Nat) (pd : Pending) : { unplace slot pd s with zones := s.zones } = s := by
  unfold unplace
  split <;> rfl

theorem unplace_sub? (slot n : Nat) (pd : Pending) : (unplace slot pd s).sub? n = s.sub? n := by
  unfold unplace
  split <;> rfl

theorem dropOffer_of_no_pending {slot : Nat} {x : Subscriber} {s : State} (h : s.sub? slot = some x)
    (hp : x.pending = none) : dropOffer slot s = s := by
  unfold dropOffer
  simp [h, hp]

theorem dropWithdraw_of_no_pending {slot : Nat} {x : Subscriber} {s : State} (h : s.sub? slot = some x)
    (hp : x.pending = none) : dropWithdraw slot s = s := by
  unfold dropWithdraw
  simp [h, hp]

/-- What a tag release does to a subscriber with a tag and no pending control item (R8). -/
theorem tagRelease_of_tag {slot tag : Nat} {x : Subscriber} {s : State} (h : s.sub? slot = some x)
    (ht : x.tag = some tag) (hp : x.pending = none) :
    tagRelease slot s =
      { s with
        offerWait := s.offerWait.filter fun e => e.slot != slot, tags := Assoc.erase tag s.tags,
        coolDown := s.coolDown ++ [(tag, some (s.coolEnd s.now))] }.modSub slot fun x =>
          { x with tag := none, tagState := .none, offers := 0 } := by
  unfold tagRelease
  simp only [h, ht, dropOffer_of_no_pending h hp]
  rfl

/-! ### Lines and zones -/

theorem lineError_below {l : Fin 8} {s : State}
    (h : (s.line l).state = .opened → satAdd 255 (s.line l).errorsSweep 1 < s.settings.lineThreshold) :
    lineError l s = s.modLine l fun x =>
      { x with errorsSweep := satAdd 255 x.errorsSweep 1, errorTotal := satAdd 65535 x.errorTotal 1 } := by
  unfold lineError
  simp only [State.modLine_line_self, State.modLine_settings]
  rw [if_neg]
  rintro ⟨h1, h2⟩
  have := h h1
  omega

theorem zoneError_below {z : Fin 8} {s : State}
    (h : (s.zone z).link = .linked → satAdd 255 (s.zone z).errorsSweep 1 < s.settings.zoneThreshold) :
    zoneError z s = s.modZone z fun zn =>
      { zn with errorsSweep := satAdd 255 zn.errorsSweep 1, errorTotal := satAdd 65535 zn.errorTotal 1 } := by
  unfold zoneError
  simp only [State.modZone_zone_self, State.modZone_settings]
  rw [if_neg]
  rintro ⟨h1, h2⟩
  have := h h1
  omega

end Sys2Proof.Machine
end

