-- ==== Sys2Proof/Laws/Slips.lean ====
section
/-! SUPPORT. A slip taken in a running scan: what its whole event does, said once (`slipEvent_answers`). -/

namespace Sys2Proof.Machine

/-- Without kept answers, passing indices changes nothing. -/
theorem passIndices_of_no_kept (p : Port) (r : ScanRun) (err : BitVec 64) (n k : Nat) (s : State)
    (h : (s.port p).kept = []) : passIndices p r err n k s = s := by
  induction n generalizing k with
  | zero => rfl
  | succ n ih =>
    have hw : ∀ ix e, writeKept p ix e s = s := by
      intro ix e
      unfold writeKept
      split
      · rename_i a _ hg
        simp [h, Assoc.get?] at hg
      · rfl
    rw [passIndices, hw, ih]

/-- A slip taken by a scan is acted on in the state that the scan has reached. -/
theorem takeSlip_of_taking {p : Port} {ix : Fin 64} {b : Bus} {s : State} (h : Taking p ix b s) (act : Act) :
    ∃ base, (s.port p).area = some base ∧ takeSlip p ix b act s = actOnSlip p base ix b act (s.reached p ix) := by
  obtain ⟨hs, hk, hread, -, -⟩ := h
  unfold State.canTake at hs
  split at hs
  · rename_i base r ha hsc
    refine ⟨base, ha, ?_⟩
    have hle : r.examined ≤ r.offset ix := by simpa using hs
    have hreach : s.modPort p (PortUnit.examinedTo (r.offset ix + 1)) = s.reached p ix := by
      unfold State.reached
      cases p <;> simp_all [State.modPort, State.port, PortUnit.examinedTo]
    simp only [takeSlip, ha, hsc, hle, if_true]
    rw [passIndices_of_no_kept _ _ _ _ _ _ hk, hreach]
    have : (((s.reached p ix).port p).kept) = [] := by
      simp [State.reached, hk]
    simp [this, Assoc.get?, hread]
  · cases hs

/-- An answer written without a bus error captures no fault. -/
theorem answerSlip_faults {p : Port} {ix : Fin 64} {b : Bus} (base : Nat) (ha : b.answer = false) (hm : b.mark = false)
    (a : Answer) (e : State) (q : Port) :
    (((answerSlip p base ix b a e).modPort p (PortUnit.slipTaken ix)).port q).faults = (e.port q).faults := by
  simp only [answerSlip, ha, hm]
  cases p <;> cases q <;>
    simp [State.port, State.modPort, PortUnit.faults, PortUnit.slipTaken, PortUnit.scanAnswered]

/-- A slip taken without bus errors: its effect, its answer in place, and nothing else but the scan's own progress and the
header writes. -/
theorem slipEvent_answers_of {p : Port} {ix : Fin 64} {b : Bus} {s e₀ e : State} {a : Answer} {act : Act} {c : Instr}
    (h : Taking p ix b s) (hc : exec c s = slipEvent p ix b act s)
    (hact : actWhenReady act (s.reached p ix) = (e₀, a))
    (he₀ : e = if a.code = .malformed then capture p .malformedSlip ix.val e₀ else e₀)
    (harea : (e.port p).area = (s.port p).area) : Answers c p ix b s e a := by
  obtain ⟨base, hb, htake⟩ := takeSlip_of_taking h act
  have hea : (e.port p).area = some base := by rw [harea, hb]
  -- the state after the answer is written
  let m : State := (answerSlip p base ix b a e).modPort p (PortUnit.slipTaken ix)
  have hstate : takeSlip p ix b act s = m := by
    rw [htake]
    simp only [actOnSlip, hact, m, he₀]
  obtain ⟨t, ht, he⟩ := finish_endsAs b s m
  refine ⟨t, by rw [hc, slipEvent, hstate, ht], ?_, ?_⟩
  · rw [he.bare]
    simp only [m, answerSlip, h.answer, h.mark]
    cases p <;> simp [State.bare, State.answeredBy, State.modPort, PortUnit.bare, PortUnit.slipTaken,
      PortUnit.scanAnswered, Option.map_map, Function.comp_def]
  · have hma : (m.port p).area = some base := by
      simp only [m, answerSlip, h.answer, h.mark]
      simp [PortUnit.slipTaken, PortUnit.scanAnswered, hea]
    have hmem : (m.port p).hostMem = writeAnswered base ix (writeAnswer base ix a (e.port p).hostMem) := by
      simp only [m, answerSlip, h.answer, h.mark]
      simp [PortUnit.slipTaken, PortUnit.scanAnswered]
    have hother : m.port p.other = e.port p.other := by
      simp [m, answerSlip, h.answer, h.mark]
    have hnot : ∀ x, slipAddress base ix ≤ x → ¬ headerByte (m.port p).area x := by
      intro x hx hh
      rw [hma] at hh
      obtain ⟨b', hb', hr⟩ := hh
      cases hb'
      unfold slipAddress at hx
      omega
    have hlen : (leBytes 2 a.code.toNat ++ leBytes 2 a.flags.toNat ++ [0, 0, 0, 0] ++ a.fields : List Byte) = a.bytes :=
      rfl
    have hfault := answerSlip_faults (p := p) (ix := ix) base h.answer h.mark a e
    refine ⟨fun hh => (he.faultsA hh).trans (hfault .A), fun hh => (he.faultsB hh).trans (hfault .B),
      fun base' hb' => ?_, fun base' hb' i hi => ?_, fun base' hb' x hx h1 h2 => ?_, fun x hx => ?_⟩
    · rw [hea] at hb'; cases hb'
      rw [he.memory p _ (hnot _ (Nat.le_refl _)), hmem, writeAnswered]
      exact memRead_memWrite_inside (i := 0) [2] _ (by simp)
    · rw [hea] at hb'; cases hb'
      rw [he.memory p _ (hnot _ (by omega)), hmem, writeAnswered,
        memRead_memWrite_outside _ _ (by simp; omega), writeAnswer, hlen]
      exact memRead_memWrite_inside _ _ hi
    · rw [hea] at hb'; cases hb'
      rw [he.memory p x (by rwa [hma]), hmem, writeAnswered, memRead_memWrite_outside _ _ (by simp; omega),
        writeAnswer, hlen, memRead_memWrite_outside _ _ h2]
    · rw [he.memory p.other x (by rwa [hother]), hother]

/-- The same for a READY part and an answer other than MALFORMED. -/
theorem slipEvent_answers {p : Port} {ix : Fin 64} {b : Bus} {s e : State} {a : Answer} {act : Act} {c : Instr}
    (h : Taking p ix b s) (hr : s.part = .ready) (hc : exec c s = slipEvent p ix b act s)
    (hact : act (s.reached p ix) = (e, a)) (hm : a.code ≠ .malformed) (harea : (e.port p).area = (s.port p).area) :
    Answers c p ix b s e a := by
  refine slipEvent_answers_of h hc ?_ (if_neg hm).symm harea
  have : (s.reached p ix).part ≠ .starting := by simp [State.reached, hr]
  rw [actWhenReady, if_neg this, hact]

/-- While the part is STARTING, a slip is answered NOT-READY and has no effect (R185, R191). -/
theorem slipEvent_starting {p : Port} {ix : Fin 64} {b : Bus} {s : State} {act : Act} {c : Instr}
    (h : Taking p ix b s) (hr : s.part = .starting) (hc : exec c s = slipEvent p ix b act s) :
    Answers c p ix b s (s.reached p ix) { code := .notReady } := by
  refine slipEvent_answers_of (e₀ := s.reached p ix) h hc ?_ (by simp) (by simp [State.reached])
  have : (s.reached p ix).part = .starting := by simp [State.reached, hr]
  rw [actWhenReady, if_pos this]

end Sys2Proof.Machine
end

