-- ==== Sys2Proof/Laws/Store.lean ====
section
/-! SUPPORT. The text of a message and its chain of blocks (R26), and what a zone link's look for a load does (R104). -/

namespace Sys2Proof.Machine

/-! ### Text blocks (R26) -/

/-- The characters that `n` blocks hold: those of the text in order, and 0 beyond its end. -/
theorem flatMap_blocks (t : List Byte) (n : Nat) :
    ((List.range n).flatMap fun k => (Vector.ofFn fun i : Fin 32 => t.getD (32 * k + i.val) 0).toList) =
      (List.range (32 * n)).map fun j => t.getD j 0 := by
  induction n with
  | zero => rfl
  | succ n ih =>
    have hb : (Vector.ofFn fun i : Fin 32 => t.getD (32 * n + i.val) 0).toList =
        ((List.range 32).map fun i => 32 * n + i).map fun j => t.getD j 0 :=
      List.ext_getElem (by simp only [Vector.length_toList, List.length_map, List.length_range]) (by simp)
    rw [List.range_succ, List.flatMap_append, ih, Nat.mul_succ, List.range_add, List.map_append, ← hb]
    simp

@[simp] theorem chainOf_length (t : List Byte) : (chainOf t).length = blocksOf t.length := by
  simp [chainOf]

/-- A message whose chain is that of a text, of its length, has that text. -/
theorem text_of_chain {m : Message} {t : List Byte} (hl : m.length = t.length) (hb : m.blocks = chainOf t) :
    m.text = t := by
  have hn : t.length ≤ 32 * blocksOf t.length := by unfold blocksOf; omega
  rw [Message.text, hl, hb, chainOf, List.flatMap_map, flatMap_blocks]
  refine List.ext_getElem (by simp [hn]) fun i _ h => ?_
  simp [h]

/-- What an acceptance creates holds its text in its chain. -/
theorem newMessage_chained (s : State) (slot : Nat) (sub : Subscriber) (r : Submission) :
    (newMessage s slot sub r).chained := by
  have ht : (newMessage s slot sub r).text = r.body.text := text_of_chain rfl rfl
  exact ⟨by rw [ht]; rfl, by rw [ht]; rfl⟩

/-! ### The begin of a send (R104) -/

/-- With windows all different, changing the loads of one load's window changes that load alone. -/
theorem setXfer_split {zn : Zone} {older newer : List Load} {ld : Load} (f : Load → Load)
    (h : zn.held = older ++ ld :: newer) (hn : (zn.held.map Load.window).Nodup) :
    zn.setXfer ld.window f = { zn with held := older ++ f ld :: newer } := by
  have hw : ∀ x ∈ older ++ newer, x.window ≠ ld.window := by
    rw [h, List.map_append, List.map_cons] at hn
    obtain ⟨-, ⟨hnew, -⟩, hold⟩ := by simpa [List.nodup_append, List.nodup_cons] using hn
    intro x hx
    rcases List.mem_append.1 hx with hx | hx
    · exact (hold x hx).1
    · exact hnew x hx
  have hid : ∀ l : List Load, (∀ x ∈ l, x ∈ older ++ newer) →
      l.map (fun x => if x.window = ld.window then f x else x) = l := fun l hl =>
    (List.map_congr_left fun x hx => if_neg (hw x (hl x hx))).trans (List.map_id' l)
  simp [Zone.setXfer, h, hid older (fun x hx => by simp [hx]), hid newer (fun x hx => by simp [hx])]

/-- A LINKED link with no load in SENDING and no probe waiting begins to send the load it finds. -/
theorem look_begins {z : Fin 8} {now : Win} {ms : Nat} {zn : Zone} {ld : Load} {held' : List Load}
    (hl : zn.link = .linked) (hs : zn.sending = none) (hp : zn.probeMs = none) (hn : (zn.held.map Load.window).Nodup)
    (hb : BeginsSend now zn.held ld held') :
    Zone.look z now ms zn = { zn with held := held', sendMs := ms, lastFrame := loadFrame z ld } := by
  obtain ⟨older, newer, hsplit, hx, hw, hold, rfl⟩ := hb
  have hfirst : older.find? (fun x => decide (x.xfer = .awaiting) && winLater x.window now) = none := by
    simpa using hold
  have hnext : zn.nextLoad now = some ld := by
    simp [Zone.nextLoad, hsplit, List.find?_append, hfirst, hx, hw]
  simp [Zone.look, hl, hs, hp, hnext, setXfer_split _ hsplit hn]

/-- Where a link is not LINKED, is busy with a load or a probe, or has no load to begin, a look changes nothing. -/
theorem look_stays {z : Fin 8} {now : Win} {ms : Nat} {zn : Zone}
    (h : zn.link ≠ .linked ∨ zn.sending ≠ none ∨ zn.probeMs ≠ none ∨
      ∀ x ∈ zn.held, ¬ (x.xfer = .awaiting ∧ winLater x.window now = true)) : Zone.look z now ms zn = zn := by
  unfold Zone.look
  split
  · rename_i hc
    have hnext : zn.nextLoad now = none := by
      rcases h with h | h | h | h
      · exact absurd hc.1 h
      · exact absurd hc.2.1 h
      · exact absurd hc.2.2 h
      · simpa [Zone.nextLoad] using h
    rw [hnext]
  · rfl

end Sys2Proof.Machine
end

