-- ==== Sys2Proof/Tests/Slice0.lean ====
section
/-! SUPPORT. Tests on small states: the checks of WellFormed, the spec's worked examples, slips written out from section
11.9.4, and for each statement with hypotheses a state that meets those of each clause. -/

namespace Sys2Proof.Tests

open Machine

/-! ### Small states -/

/-- A READY part with nothing in it. -/
def st : State := { State.reset with part := .ready, tagFree := [] }

/-- Port A holds control, has an area and runs a scan. -/
def scanning : State :=
  { st with
    control := { holder := some .A, tryA := false, tryB := false, peerA := 0, peerB := 0 },
    portA := { st.portA with
      area := some 0x10000, areaReg := 0x10000,
      scan := some { start := 60, examined := 0, lastTaken := none, answered := false } } }

/-- A subscriber with the last home window and the shortest stride. -/
def sub0 : Subscriber :=
  { state := .active, number := 100, pager := 200, plan := 15, twoWay := true, home := 95, wake := 3, area := 0x0F,
    lastKnown := none, tag := none, tagState := .none, offers := 0, pending := none, lastReply := none, nextSeq := 0,
    queue := [], override := false, ownBase := 0, ownCell := 0,
    account := { balance := 0, committed := 0, usage := 0, allowance := 0, period := 0, periodCharge := 0,
                 periodCount := 0, periodAllowance := 0, postpaid := .opened } }

/-- A message of that subscriber. -/
def msg0 : Message :=
  { serial := 1, slot := 16383, origin := .port .A, clientRef := 0, kind := .tone, cls := .routine, origCls := .routine,
    length := 0, blocks := [], cells := 2, seq := 63, state := .waiting, round := 1, attempts := 0, attemptZones := 0, sentZones := 0,
    firstZones := 0, zoneSends := 0, transmitted := false, due := none, deadline := none, expiry := 960, accepted := 0,
    deferrals := 0, band := 3, estimate := none, repeats := 0, backoff := 0, disposition := none, charge := none,
    allowanceUsed := none, owesOutcome := false, owesDelivery := false, finalWindow := none }

/-- The subscriber stands in the last slot. -/
def withSub (x : Subscriber) (s : State) : State :=
  { s with slots := [(16383, { sub := some x, finalCount := 0 })], numbers := [(x.number, 16383)],
           pagers := [(x.pager, 16383)] }

/-- The subscriber with one message in its queue, in both calendars by its windows. -/
def withMsg (x : Subscriber) (m : Message) (s : State) : State :=
  { withSub { x with queue := [1] } s with
    msgs := [(1, m)], freePlaces := 4095,
    dueCal := (match m.due with
      | some w => [(w.toNat, [1])]
      | none => []),
    expiryCal := [(m.expiry.toNat, [1])] }

/-- A load with one message and one control item. -/
def load0 : Load :=
  { window := 2, items := [.message 1 16383 200 63 .routine .tone [] 2, .control .offer 16383 200 5], cells := 5,
    controls := 1, xfer := .awaiting, sends := 0 }

/-- One line, one zone or one reply link changed. -/
def withLine0 (f : Line → Line) : State := st.modLine 7 f

def withZone0 (f : Zone → Zone) : State := st.modZone 7 f

def withLink0 (bs : List Byte) (s : State) : State := s.modReplyLink 3 fun r => { r with rx := some bs }

/-- The eight bytes of a reply frame before its check. -/
def reply0 (site kind : Byte) (tag pager : Nat) (seq : Byte) : List Byte :=
  [site, kind] ++ beBytes 2 tag ++ beBytes 3 pager ++ [seq]

/-- The state after a command, the state itself where it stops. -/
def after (c : Instr) (s : State) : State :=
  match exec c s with
  | .next t => t
  | .fault _ => s
  | .refused _ => s

/-! ### WellFormed: an ill-formed command for each check -/

theorem test_wf_visit : (Instr.startUpWalkVisit 0 {}).wellFormed = false := by decide
theorem test_wf_register_own_row : (Instr.registerWrite .A .notice 1 {}).wellFormed = false := by decide
theorem test_wf_register_scan : (Instr.registerWrite .A .scan 1 {}).wellFormed = false := by decide
theorem test_wf_order : (Instr.deadlineExamination [16384] {}).wellFormed = false := by decide
theorem test_wf_pages_end : (Instr.scanEnd .A [] {}).wellFormed = false := by decide
theorem test_wf_pages_choice : (Instr.pageChoice .A (List.replicate 17 none) {}).wellFormed = false := by decide
theorem test_wf_text :
    (Instr.submit .A 0 { number := 1, cls := 0, kind := 2, clientRef := 0, expiry := 0,
                         text := List.replicate 256 0x20 } {}).wellFormed = false := by
  decide +kernel
theorem test_wf_malformed : (Instr.malformedSlip .A 0 5 5 {}).wellFormed = false := by decide
theorem test_wf_overrun : (Instr.bodyLengthOverrun 0 251 {}).wellFormed = false := by decide
theorem test_wf_unknown_kind : (Instr.unknownAnswerKind 0 4 {}).wellFormed = false := by decide

/-! ### Words of section 11.9 written out by hand -/

/-- A CANCEL of serial 0x01020304 (section 11.9.4): POSTED, kind 2, the serial least significant byte first. -/
theorem test_slip_cancel :
    decodeSlip .B 63 {} [1, 2, 0, 0, 0x04, 0x03, 0x02, 0x01] = some (.cancel .B 63 0x01020304 {}) := by decide

/-- A CREDIT of -1 to the subscriber number 100 (selector 1). -/
theorem test_slip_credit :
    decodeSlip .A 0 {} ([1, 7, 0, 1, 100, 0, 0, 0] ++ List.replicate 8 0 ++ [0xFF, 0xFF, 0xFF, 0xFF]) =
      some (.credit .A 0 { selector := 1, name := 100 } 0xFFFFFFFF {}) := by decide

/-- A SUBMIT of the TEXT "Hi", class HIGH, to subscriber 100, client reference 5, expiry override 960. -/
theorem test_slip_submit :
    decodeSlip .A 1 {} ([1, 1, 0, 0, 100, 0, 0, 0] ++ List.replicate 8 0 ++
        [1, 2, 2, 0, 5, 0, 0, 0, 0xC0, 0x03, 0x48, 0x69]) =
      some (.submit .A 1 { number := 100, cls := 1, kind := 2, clientRef := 5, expiry := 960, text := [0x48, 0x69] } {}) := by
  decide

/-- A slip that is FREE (mark 0) spells no command, and one of kind 13 is malformed (R185). -/
theorem test_slip_free : decodeSlip .A 0 {} [0, 2, 0, 0, 1, 0, 0, 0] = none := by decide
theorem test_slip_unknown_kind : decodeSlip .A 0 {} [1, 13, 0, 0] = some (.malformedSlip .A 0 13 0 {}) := by decide

/-- A CONTROL write with bits 16 and 17 at 3 is PEER (section 11.9.1). -/
theorem test_register_control : decodeRegister .A 0x10 0x0003ABCD {} = some (.controlPeer .A 0xABCD {}) := by decide

/-- No row of the table gives bits. -/
theorem test_table_word : decodeTableWord 32 1 = none := rfl

/-! ### The spec's worked examples -/

/-- R4: home window 10, wake class 2 (stride 24): the first wake window at or after 202 is 202, and the third is 250. -/
theorem test_wake_windows : firstWake 10 2 202 = 202 ∧ firstWake 10 2 203 = 226 ∧ nthWake 10 2 3 202 = 250 := by decide

/-- The wake window through the wrap of the window count (R72). -/
theorem test_wake_wrap : firstWake 0 0 0xFFFFFFFF = 32 := by decide

/-- Section 4.6: window 1,001 runs out its tolerance of 1,875 ms and FALLBACK begins in window 1,002. -/
def fallbackExample : State :=
  { st with
    settings := { st.settings with clockSource := .strobe },
    clock := { now := 1001, timer := 300, length := 1500, state := .strobe, strobesHeard := 42, early := 3,
               fallbacks := 0 } }

theorem test_tolerance :
    let t := after (.toleranceExpiry {}) fallbackExample
    t.now = 1002 ∧ t.ms = 1575 ∧ t.clock.state = .fallback ∧ t.clock.fallbacks = 1 ∧ t.portB.notice = 0x100 := by decide

/-- Section 4.6: a strobe at 525 ms in FALLBACK is early, one at 825 ms realigns. -/
theorem test_realign :
    let s := { fallbackExample with clock.state := .fallback, clock.timer := 0 }
    (after (.strobe 525 {}) s).clock.early = 4 ∧ (after (.strobe 825 {}) s).clock.state = .strobe ∧
      (after (.strobe 825 {}) s).now = 1002 := by decide

/-- Section 3.7: the check codes of the nine digits "123456789", CRC-8 0xF4 and CRC-16 0x29B1, the standard check values of
these generators. -/
theorem test_crc :
    crc8 [0x31, 0x32, 0x33, 0x34, 0x35, 0x36, 0x37, 0x38, 0x39] = 0xF4 ∧
      crc16 [0x31, 0x32, 0x33, 0x34, 0x35, 0x36, 0x37, 0x38, 0x39] = 0x29B1 := by decide +kernel

/-- R156: 3 chargeable cells at base 100 and 7 a cell, band 96, surcharge 50 percent: raw 121, banded 182, total 273. -/
theorem test_rating :
    chargeOf { cells := 5, allowance := 2, base := 100, cell := 7, band := 96, surcharge := 50, search := 0, extra := 0,
               transmitted := true, delivered := true, undelivered := 0, cap := 0 } = 273 := by decide

/-- R26: a text of 33 characters takes two blocks, and the unused bytes of the last block are 0. -/
theorem test_chain :
    (chainOf (List.replicate 33 0x41)).map Vector.toList = [List.replicate 32 0x41, 0x41 :: List.replicate 31 0] := by
  decide +kernel

/-- R54: a NUMERIC character outside the set becomes a space, a TEXT one a question mark. -/
theorem test_degrade : numericChar 0x41 = 0x20 ∧ textChar 0x0A = 0x3F ∧ textChar 0x7E = 0x7E := by decide

/-- R106: a LOAD-OK taken after the start of its load's window is stray, one before it acknowledges the load. -/
theorem test_load_ok_late :
    let bs := [1, 7, 0, 0, 0, 2, 1]
    let s := fun now : Win => { withZone0 fun x => { x with
      link := .linked, onAir := true, held := [{ load0 with xfer := .sending }] } with clock.now := now }
    (((loadAnswer 7 true bs (s 2)).zone 7).strayAnswers = 1 ∧
      ((loadAnswer 7 true bs (s 2)).zone 7).held.map Load.xfer = [.sending]) ∧
      ((loadAnswer 7 true bs (s 1)).zone 7).held.map Load.xfer = [.acknowledged] := by decide

/-- R96: a MODIFY of the service area takes a placed control item out of its load; the message stays. -/
theorem test_area_unplaces :
    let pd : Pending := { kind := .offer, tag := 5, due := 2, placed := true }
    let s := { withSub { sub0 with pending := some pd } st with
      zones := (withZone0 fun x => { x with held := [load0] }).zones }
    let t := changeArea 16383 sub0 (some 0xF0) s
    ((t.zone 7).held.map fun ld => (ld.items.length, ld.cells, ld.controls)) = [(1, 2, 0)] ∧
      ((t.sub? 16383).bind Subscriber.pending).map Pending.placed = some false := by decide

/-! ### Witnesses: the hypotheses of each statement, clause by clause -/

theorem witness_StepRunsFrontCommand :
    ({ st with pending := [.coolDownEnd {}] } : State).pending = .coolDownEnd {} :: [] ∧ st.pending = [] := by decide

theorem witness_PowerOnAndStartUp :
    (State.reset.part = .starting ∧ State.reset.startUp + max 1 28689 < 28690) ∧
      (State.reset.part = .starting ∧ 28690 ≤ State.reset.startUp + max 1 28690) ∧ st.part = .ready := by decide

theorem witness_RegistersAndScan :
    ((0 : Word) ≠ 1 ∧ (0 : Word) ≠ 0xA5) ∧ (0x1F : Word).getLsbD 5 = false ∧ (0x20 : Word).getLsbD 5 = true ∧
      (st.port .A).area = none ∧
      ((scanning.port .A).area.isSome = true ∧ (scanning.port .A).scan.isSome = true) ∧
      ({ scanning with portA.scan := none }.port .A).scan = none ∧
      ((st.port .B).scanDue = true ∧ (st.port .B).area = none) ∧
      ({ scanning with portA.scan := none }.port .A).scanDue = true ∧ (scanning.port .A).scanDue = true := by decide

theorem witness_ControlWrites :
    scanning.control.holder ≠ none ∧ st.control.holder = none ∧ scanning.control.holder = some .A ∧
      scanning.control.holder ≠ some .B := by decide

theorem witness_MoveOfControl :
    st.control.holder ≠ some .A ∧ scanning.control.holder ≠ none ∧ scanning.control.holder ≠ some .B ∧
      (scanning.port .A).queue.countP Item.isRecord < 64 ∧
      64 ≤ (List.replicate 64 (Item.periodEnd 0 0 0)).countP Item.isRecord := by decide

/-- A page that holds its last record, in the area's own host memory. -/
def page0 : Page := { entry := 15, address := 0x20000, written := 62, first := 0, since := 0, sealOwed := false }

theorem witness_PortResetState :
    let s := { scanning with portA.current := some page0 }
    ((s.port .A).area = some 0x10000 ∧ 0x10000 % 65536 = 0 ∧ (s.port .A).current = some page0 ∧ 1 ≤ page0.written) ∧
      (st.port .A).areaReg = 0 ∧ ({ s with portA.areaReg := 0x10001 }.port .A).areaReg.toNat % 65536 ≠ 0 ∧
      ((s.port .A).areaReg ≠ 0 ∧ (s.port .A).areaReg.toNat % 65536 = 0) ∧ s.control.holder ≠ some .B ∧
      s.control.holder = some .A ∧ s.control.tryFlag .B = false := by decide

/-- A CONFIRMED holder of tag 4,095, last heard in window 0. -/
def holder0 : Subscriber := { sub0 with tag := some 4095, tagState := .confirmed, lastReply := some 0 }

/-- The state of that holder. -/
def tagged : State := { withSub holder0 st with tags := [(4095, 16383)], tagFree := [1], coolDown := [(2, some 9)] }

theorem tagged_placed : TagsPlaced tagged := by
  refine ⟨by decide, by decide, fun tag slot => ?_⟩
  by_cases hs : slot = 16383
  · subst hs
    by_cases ht : tag = 4095
    · subst ht; decide
    · have h1 : Assoc.get? tag tagged.tags = none := by simp [tagged, Assoc.get?, ht]
      have h2 : (tagged.sub? 16383).bind Subscriber.tag = some 4095 := by decide
      rw [h1, h2]
      simp only [Option.some.injEq, reduceCtorEq, false_iff]
      exact fun h => ht h.symm
  · have h1 : Assoc.get? tag tagged.tags ≠ some slot := by
      simp only [tagged, Assoc.get?]
      split
      · simp only [ne_eq, Option.some.injEq]; omega
      · simp
    have h2 : tagged.sub? slot = none := by simp [State.sub?, State.slot, tagged, withSub, Assoc.get?, hs]
    simp [h1, h2]

theorem witness_TagsPlacedKept : TagsPlaced tagged ∧ ∃ t, step tagged = .next t :=
  ⟨tagged_placed, _, rfl⟩

/-- A WAITING TEXT message with one text block, due in window 2. -/
def text0 : Message := { msg0 with kind := .text, length := 1, blocks := chainOf [0x41], cells := 3, due := some 2 }

/-- The store that holds it. -/
def queued : State := withMsg sub0 text0 { st with freeBlocks := 8191 }

/-- A store that holds one queued message, in both calendars by its windows, agrees with itself. -/
theorem withMsg_agrees {x : Subscriber} {m : Message} {s : State}
    (hq : s.unheld = [] ∧ s.portA.queue = [] ∧ s.portB.queue = []) (hr : s.freeBlocks + m.blocks.length = 8192)
    (h : m.serial = 1 ∧ m.slot = 16383 ∧ m.state ≠ .final ∧ m.owesOutcome = false ∧ m.owesDelivery = false)
    (hc : m.chained)
    (hw : (m.due.isSome = true ↔ m.state = .waiting ∨ m.state = .loaded ∨ m.state = .retryWait) ∧
      (m.deadline.isSome = true ↔ m.state = .sent)) : StoreAgrees (withMsg x m s) := by
  obtain ⟨hserial, hslot, hfinal, ho, hd⟩ := h
  have hm : ∀ k, (withMsg x m s).msg? k = if k = 1 then some m else none := fun k => by
    simp [State.msg?, withMsg, withSub, Assoc.get?]
  have hn : ∀ n, (withMsg x m s).slot n =
      if n = 16383 then { sub := some { x with queue := [1] }, finalCount := 0 } else { sub := none, finalCount := 0 } :=
    fun n => by
      by_cases e : n = 16383 <;> simp [State.slot, withMsg, withSub, Assoc.get?, e]
  have hs : ∀ n, (withMsg x m s).sub? n = if n = 16383 then some { x with queue := [1] } else none := fun n => by
    rw [State.sub?, hn]; split <;> rfl
  have hdue : ∀ w, calList w (withMsg x m s).dueCal = if m.due = some w then [1] else [] := fun w => by
    cases e : m.due with
    | none => simp [withMsg, e, calList, Assoc.get?]
    | some v =>
      by_cases hv : w = v
      · simp [withMsg, e, calList, Assoc.get?, hv]
      · have : w.toNat ≠ v.toNat := fun hn => hv (BitVec.eq_of_toNat_eq hn)
        simp [withMsg, e, calList, Assoc.get?, this, Ne.symm hv]
  have hexp : ∀ w, calList w (withMsg x m s).expiryCal = if m.expiry = w then [1] else [] := fun w => by
    by_cases hv : w = m.expiry
    · simp [withMsg, calList, Assoc.get?, hv]
    · have : w.toNat ≠ m.expiry.toNat := fun hn => hv (BitVec.eq_of_toNat_eq hn)
      simp [withMsg, calList, Assoc.get?, this, Ne.symm hv]
  have hi : ∀ it, (withMsg x m s).itemsWaiting it = 0 := fun it => by
    simp [State.itemsWaiting, withMsg, withSub, hq.1, hq.2.1, hq.2.2]
  have hm1 : ∀ (k : Nat) (P : Message → Prop), (∃ m', (withMsg x m s).msg? k = some m' ∧ P m') ↔ k = 1 ∧ P m :=
    fun k P => by rw [hm]; split <;> simp_all
  constructor
  · exact ⟨by simp [withMsg], rfl, by simpa [withMsg, withSub] using hr⟩
  · intro k m' hk
    rw [hm] at hk
    split at hk
    · cases hk; exact ⟨by omega, hc⟩
    · cases hk
  · intro k m' hk
    rw [hm] at hk
    split at hk
    · cases hk; exact hw
    · cases hk
  · intro w k
    rw [hdue, hm1]
    split <;> simp_all
  · intro w; rw [hdue]; split <;> simp
  · intro w k
    rw [hexp, hm1]
    split <;> simp_all
  · intro w; rw [hexp]; split <;> simp
  · intro n k
    rw [hm1, hs]
    by_cases e : n = 16383
    · simp [e, hfinal, hslot]
    · simp [e, hslot, Ne.symm e]
  · intro n sub hsub
    rw [hs] at hsub
    split at hsub
    · cases hsub; simp
    · cases hsub
  · intro n
    rw [hn]
    split <;> simp [withMsg, hfinal]
  · intro k m' hk
    rw [hm] at hk
    split at hk
    · cases hk; simp [hfinal, ho, hd]
    · cases hk
  · intro k
    rw [hi, hm]
    split <;> simp [ho]
  · intro k
    rw [hi, hm]
    split <;> simp [hd]

/-- A TONE message has no block and no text. -/
theorem tone_chained {m : Message} (h : m.length = 0 ∧ m.blocks = []) : m.chained :=
  ⟨by simp [Message.text, h.1, h.2], by simp [Message.text, h.1, h.2, chainOf, blocksOf]⟩

theorem queued_agrees : StoreAgrees queued := by
  refine withMsg_agrees (by decide) (by simp [text0, blocksOf]) (by decide) ?_ (by decide)
  have ht : text0.text = [0x41] := text_of_chain rfl rfl
  exact ⟨by rw [ht]; rfl, by rw [ht]; rfl⟩

theorem witness_StoreRoomKept : StoreRoom queued ∧ StoreAgrees queued ∧ ∃ t, step queued = .next t :=
  ⟨queued_agrees.room, queued_agrees, _, rfl⟩

theorem witness_CanonicalKept : Canonical queued ∧ ∃ t, step queued = .next t :=
  ⟨⟨by decide, by decide, by decide, by decide, by decide, by decide, by decide, by decide, by decide, by decide,
    by decide⟩, _, rfl⟩

theorem witness_AccountingPlacedKept :
    let s := { scanning with portA.queue := [.outcome 1], portB.queue := [.delivery 1] }
    AccountingPlaced s ∧ ∃ t, step s = .next t := by
  refine ⟨⟨fun p => ?_, by decide, by decide⟩, _, rfl⟩
  cases p <;> decide

theorem witness_BoundedKept : Bounded scanning ∧ ∃ t, step scanning = .next t := by
  refine ⟨⟨by decide, ?_, by decide, by decide, fun p pg h => ?_, by decide, fun p => ?_⟩, _, rfl⟩
  · intro l; exact Or.inl (by revert l; decide)
  · cases p <;> cases h
  · cases p <;> decide

/-- Zone 7 LINKED with these loads held, the declaration and the build of the window made. -/
def holding (loads : List Load) : State :=
  { withZone0 (fun x => { x with link := .linked, held := loads }) with due.build := false, due.declaration := false }

/-- A load of window 1 in SENDING before one of window 2 in AWAITING. -/
def twoLoads : List Load := [{ load0 with window := 1, xfer := .sending, sends := 3 }, load0]

theorem witness_BoundedKept_loads :
    let s := { holding twoLoads with pending := [.windowTimerExpiry {}] }
    LoadsHeld s ∧ (endsWindow (.windowTimerExpiry {}) = true ∧ s.due.declaration = false) ∧ ∃ t, step s = .next t :=
  ⟨⟨by decide, by decide, by decide, by decide, by decide, by decide, by decide⟩, by decide, _, rfl⟩

theorem witness_CountsKept : ∃ t, step { st with pending := [.windowTimerExpiry {}] } = .next t := ⟨_, rfl⟩

/-- A FINAL TONE message that owes OUTCOME, as it stands when no port holds control. -/
def ended0 : Message := { msg0 with state := .final, owesOutcome := true }

/-- The store that holds it. -/
def ended : State :=
  { st with slots := [(16383, { sub := some sub0, finalCount := 1 })], msgs := [(1, ended0)], freePlaces := 4095,
            unheld := [.outcome 1] }

theorem ended_agrees : StoreAgrees ended := by
  have hm : ∀ k, ended.msg? k = if k = 1 then some ended0 else none := fun k => by simp [State.msg?, ended, Assoc.get?]
  have hn : ∀ n, ended.slot n =
      if n = 16383 then { sub := some sub0, finalCount := 1 } else { sub := none, finalCount := 0 } := fun n => by
    by_cases e : n = 16383 <;> simp [State.slot, ended, Assoc.get?, e]
  have hs : ∀ n, ended.sub? n = if n = 16383 then some sub0 else none := fun n => by rw [State.sub?, hn]; split <;> rfl
  have hd : ∀ w, calList w ended.dueCal = [] := fun _ => rfl
  have he : ∀ w, calList w ended.expiryCal = [] := fun _ => rfl
  have hi : ∀ it, ended.itemsWaiting it = if it = .outcome 1 then 1 else 0 := fun it => by
    by_cases e : it = .outcome 1
    · subst e; decide
    · rw [if_neg e, State.itemsWaiting, show ended.unheld = [.outcome 1] from rfl, List.count_cons_of_ne (Ne.symm e)]
      rfl
  constructor
  · exact ⟨List.pairwise_singleton _ _, by decide, by decide⟩
  · intro k m hk
    rw [hm] at hk
    split at hk <;> cases hk
    exact ⟨by simp_all [ended0, msg0], tone_chained (by decide)⟩
  · intro k m hk
    rw [hm] at hk
    split at hk <;> cases hk
    decide
  · intro w k
    rw [hd, hm]
    split <;> simp [ended0, msg0]
  · intro w; rw [hd]; exact List.nodup_nil
  · intro w k
    rw [he, hm]
    split <;> simp [ended0]
  · intro w; rw [he]; exact List.nodup_nil
  · intro n k
    rw [hs, hm]
    split <;> split <;> simp [ended0, sub0]
  · intro n x hx
    rw [hs] at hx
    split at hx <;> cases hx
    exact List.nodup_nil
  · intro n
    rw [hn]
    by_cases e : n = 16383
    · subst e; decide
    · simp [e, ended, ended0, msg0, Ne.symm e]
  · intro k m hk
    rw [hm] at hk
    split at hk <;> cases hk
    decide
  · intro k
    rw [hi, hm]
    by_cases e : k = 1 <;> simp [e, ended0]
  · intro k
    rw [hi, hm]
    by_cases e : k = 1 <;> simp [e, ended0, msg0]

theorem witness_FinalMessageKept :
    StoreAgrees ended ∧ ended.msg? 1 = some ended0 ∧ ended0.state = .final ∧ ∃ t, step ended = .next t :=
  ⟨ended_agrees, by decide, rfl, _, rfl⟩

theorem witness_ClockCommands :
    st.clock.state ≠ .strobe ∧ fallbackExample.clock.state = .strobe ∧ fallbackExample.clock.timer ≤ 749 ∧
      st.clock.state = .internal ∧ fallbackExample.clock.state ≠ .internal ∧ 749 * 2 < fallbackExample.clock.length ∧
      fallbackExample.clock.length ≤ 750 * 2 := by decide

theorem witness_WindowStart :
    (st.settings.clockSource = .internal ∧
      (fallbackExample.settings.clockSource = .strobe ∧ fallbackExample.clock.state = .strobe) ∧
      { fallbackExample with clock.state := .internal }.clock.state = .internal ∧
      { fallbackExample with clock.state := .fallback }.clock.state = .fallback) ∧
      (windowStart .timer { st with clock.now := 95 }).now.toNat % 96 = 0 ∧
      (windowStart .timer { st with clock.now := 96 }).now.toNat % 96 ≠ 0 ∧
      (windowStart .timer st).clock.state = st.clock.state ∧
      (windowStart .tolerance fallbackExample).clock.state ≠ fallbackExample.clock.state ∧
      (fallbackExample.port .A).queue.countP Item.isRecord < 64 ∧
      64 ≤ ({ fallbackExample with portB.queue := List.replicate 64 (.periodEnd 0 0 0) }.port .B).queue.countP
        Item.isRecord := by decide

theorem witness_StateChangeRecords :
    (st.port .B).queue.countP Item.isRecord < 64 ∧
      64 ≤ ({ st with portB.queue := List.replicate 64 (.periodEnd 0 0 0) }.port .B).queue.countP Item.isRecord := by
  decide

theorem witness_WakeWindows : sub0.home ≤ 95 ∧ 1 ≤ 8 ∧ 8 ≤ 8 := by decide

theorem witness_ListSweeps :
    st.due.coolDown = true ∧ st.due.lineSweep = true ∧ (∃ l, ((withLine0 fun x => { x with state := .quiet }).line l).state = .quiet) ∧
      (∀ l, (st.line l).state ≠ .quiet) ∧ st.due.zoneSweep = true := by decide

theorem witness_StoreReactions :
    let s := withMsg sub0 { msg0 with due := some 1, expiry := 0 } st
    (s.due.lateEntry = true ∧ (calList (s.now + 1) s.dueCal).Nodup ∧ calList (s.now + 1) s.dueCal = [1] ∧
      s.msg? 1 = some { msg0 with due := some 1, expiry := 0 } ∧ (s.sub? 16383).isSome = true) ∧
      s.due.expiry = true ∧ calList s.now s.expiryCal = [1] ∧ msg0.state ≠ .final := by decide

theorem witness_MessageFinal :
    let s := withMsg sub0 msg0 st
    s.msg? 1 = some msg0 ∧ msg0.state ≠ .final ∧ s.sub? msg0.slot = some { sub0 with queue := [1] } := by decide

theorem witness_BuildHandsOver :
    let s := withZone0 fun x => { x with link := .linked, onAir := true, inService := true }
    s.due.build = true ∧ ((s.zone 7).link = .linked ∧ (s.zone 7).onAir = true ∧ (s.zone 7).inService = true) ∧
      ¬ ((s.zone 0).link = .linked ∧ (s.zone 0).onAir = true ∧ (s.zone 0).inService = true) ∧
      2 ∉ calList (s.now + 2) s.dueCal := by decide

/-- Zone 7 takes a build while it holds these loads. -/
def handing (loads : List Load) : State :=
  withZone0 fun x => { x with link := .linked, onAir := true, inService := true, held := loads }

theorem witness_BuildHandsOver_begin :
    let free := handing [{ load0 with window := 1 }]
    let busy := handing [{ load0 with window := 1, xfer := .sending }]
    (free.due.build = true ∧ LoadsHeld free ∧ (free.zone 7).probeMs = none ∧
      ∀ ld ∈ (free.zone 7).held, ld.xfer ≠ .sending) ∧
      (LoadsHeld busy ∧ ∃ ld ∈ (busy.zone 7).held, ld.xfer = .sending) := by
  refine ⟨⟨by decide, ⟨?_, ?_, ?_, ?_, ?_, ?_, ?_⟩, by decide, by decide⟩, ⟨⟨?_, ?_, ?_, ?_, ?_, ?_, ?_⟩, by decide⟩⟩ <;>
    decide

/-- A message of the list for window 2, built for while zone 7 alone is available, under a plan. -/
def building (pl : Plan) (x : Subscriber) (m : Message) : State :=
  withMsg x { m with due := some 2 } { handing [] with plans := Vector.replicate 16 pl }

theorem building_canonical (pl : Plan) (x : Subscriber) (m : Message) : Canonical (building pl x m) := by
  constructor <;> first | exact List.pairwise_singleton _ _ | exact List.Pairwise.nil

theorem building_agrees (pl : Plan) (x : Subscriber) {m : Message}
    (h : m.serial = 1 ∧ m.slot = 16383 ∧ m.owesOutcome = false ∧ m.owesDelivery = false ∧ m.deadline = none ∧
      m.length = 0 ∧ m.blocks = [])
    (hs : m.state = .waiting ∨ m.state = .loaded ∨ m.state = .retryWait) : StoreAgrees (building pl x m) := by
  obtain ⟨h1, h2, h3, h4, h5, h6, h7⟩ := h
  refine withMsg_agrees ⟨rfl, rfl, rfl⟩ (by simp [h7]; rfl) ⟨h1, h2, ?_, h3, h4⟩ (tone_chained ⟨h6, h7⟩) ⟨by simp [hs], ?_⟩
  · rcases hs with hs | hs | hs <;> simp [hs]
  · rcases hs with hs | hs | hs <;> simp [hs, h5]

theorem witness_BuildHandsOver_list :
    let near := { sub0 with area := 0x80 }
    let s := building Plan.reset near msg0
    (s.due.build = true ∧ Canonical s ∧ StoreAgrees s ∧ 1 ∈ calList (s.now + 2) s.dueCal ∧
      s.msg? 1 = some { msg0 with due := some 2 } ∧ s.sub? 16383 = some { near with queue := [1] } ∧ near.state = .active ∧
      ¬ ((s.plan near.plan).retryLimit + 1 ≤ msg0.attempts) ∧ attemptZones s.settings near 0 &&& availableZones s ≠ 0) ∧
      (StoreAgrees (building Plan.reset near { msg0 with state := .loaded }) ∧
        StoreAgrees (building Plan.reset near { msg0 with state := .retryWait }) ∧
        StoreAgrees (building Plan.reset { near with state := .suspended } msg0)) ∧
      (StoreAgrees (building { Plan.reset with hold := true } near { msg0 with attempts := 1 }) ∧
        StoreAgrees (building Plan.reset near { msg0 with attempts := 1 }) ∧
        Plan.reset.retryLimit + 1 ≤ { msg0 with attempts := 1 }.attempts) ∧
      (StoreAgrees (building Plan.reset sub0 msg0) ∧ attemptZones s.settings sub0 0 &&& availableZones s = 0) := by
  refine ⟨⟨by decide, building_canonical _ _ _, building_agrees _ _ (by decide) (by decide), ?_⟩,
    ⟨building_agrees _ _ (by decide) (by decide), building_agrees _ _ (by decide) (by decide),
      building_agrees _ _ (by decide) (by decide)⟩,
    ⟨building_agrees _ _ (by decide) (by decide), building_agrees _ _ (by decide) (by decide), by decide⟩,
    ⟨building_agrees _ _ (by decide) (by decide), by decide⟩⟩
  decide

theorem witness_BuildHandsOver_control :
    let due := fun w : Win => ({ kind := .offer, tag := 5, due := w, placed := false } : Pending)
    let s := fun (area : ZoneSet) (w : Win) => building Plan.reset { sub0 with area := area, pending := some (due w) } msg0
    (∀ area w, Canonical (s area w) ∧ StoreAgrees (s area w)) ∧
      ((due 3).due ≠ (s 0x80 3).now + 2 ∧ (due 2).due = (s 0x80 2).now + 2) ∧ (due 1).due = (s 0x80 1).now + 2 - 1 ∧
      winLater (s 0x80 0xFFFFFFFF).now (due 0xFFFFFFFF).due = true ∧
      ((0x0F : ZoneSet) &&& availableZones (s 0x0F 2) = 0 ∧ (0x80 : ZoneSet) &&& availableZones (s 0x80 2) ≠ 0) :=
  ⟨fun _ _ => ⟨building_canonical _ _ _, building_agrees _ _ (by decide) (by decide)⟩, by decide, by decide, by decide,
    by decide⟩

theorem witness_BuildFitsCapacity :
    let s := { withZone0 (fun x => { x with link := .linked, onAir := true, inService := true }) with
      settings.capacity := Vector.replicate 8 24 }
    s.due.build = true ∧ 24 ≤ s.settings.capacity[(7 : Fin 8)] ∧ ((after (.windowBuild {}) s).zone 7).lastBuild ≠ none := by
  decide

/-- A candidate of a class. -/
def cand (serial : Nat) (c : MsgClass) : Candidate := { serial := serial, cls := c, cells := 2, zones := 1 }

theorem witness_BuilderChoices :
    (∃ d ∈ [cand 1 .urgent, cand 2 .routine], MsgClass.urgent.toNat < d.cls.toNat) ∧
      (∀ d ∈ [cand 1 .urgent], ¬ MsgClass.urgent.toNat < d.cls.toNat) ∧ [cand 1 .urgent] ≠ [] ∧
      { sub0 with twoWay := false }.twoWay = false ∧ sub0.lastKnown = none ∧ 2 ≤ 2 ∧
      (sub0.twoWay = true ∧ { sub0 with lastKnown := some 1 }.lastKnown = some 1) := by decide

/-- A message LOADED for now in zone 7's acknowledged load, or in none. -/
def onAir0 (x : Subscriber) (m : Message) (loads : List Load) : State :=
  withMsg x { m with state := .loaded, due := some 0 } (withZone0 fun z => { z with link := .linked, held := loads })

/-- The load of window 0, acknowledged. -/
def acked : Load := { load0 with window := 0, xfer := .acknowledged }

theorem witness_LoadDeclaration :
    let missed := onAir0 sub0 msg0 [{ acked with xfer := .abandoned }]
    let sent := onAir0 sub0 msg0 [acked]
    let oneWay := onAir0 { sub0 with twoWay := false } { msg0 with repeats := 1 } [acked]
    (missed.due.declaration = true ∧ calList missed.now missed.dueCal = [1] ∧
      missed.msg? 1 = some { msg0 with state := .loaded, due := some 0 } ∧
      missed.sub? 16383 = some { sub0 with queue := [1] } ∧
      (onAirItems missed.now missed).filter (fun e => e.2.isMessage 1) = []) ∧
      ((onAirItems sent.now sent).filter (fun e => e.2.isMessage 1) ≠ [] ∧ sub0.twoWay = true) ∧
      ((onAirItems oneWay.now oneWay).filter (fun e => e.2.isMessage 1) ≠ [] ∧
        (oneWay.sub? 16383).map Subscriber.twoWay = some false) ∧ (2 ∉ calList sent.now sent.dueCal) := by decide

theorem witness_LoadDeclaration_begin :
    let s := withZone0 fun x => { x with link := .linked, held := [{ load0 with window := 0, xfer := .sending }, load0] }
    let others := (s.zone 7).held.filter fun ld => ld.window ≠ s.now
    (others.map Load.window).Nodup ∧ ((s.zone 7).link = .linked ∧ (s.zone 7).probeMs = none) ∧
      (∀ x ∈ others, x.xfer ≠ .sending) ∧ BeginsSend s.now others load0 [{ load0 with xfer := .sending, sends := 1 }] ∧
      (s.zone 0).link ≠ .linked :=
  ⟨by decide, by decide, by decide, ⟨[], [], by decide, by decide, by decide, by decide, by decide⟩, by decide⟩

/-- A pending control item of tag 5, due now. -/
def pend (k : ControlKind) : Pending := { kind := k, tag := 5, due := 0, placed := true }

theorem witness_ControlItemsOnAir :
    let offer := onAir0 { sub0 with pending := some (pend .offer), tag := some 5, tagState := .offered } msg0 [acked]
    let withdraw := { onAir0 { sub0 with pending := some (pend .withdraw) } msg0
      [{ acked with items := [.control .withdraw 16383 200 5] }] with coolDown := [(5, none)] }
    (offer.due.declaration = true ∧ (offer.sub? 16383).bind Subscriber.pending = some (pend .offer) ∧
      (pend .offer).due = offer.now ∧ ((7 : Fin 8), LoadItem.control .offer 16383 200 5) ∈ onAirItems offer.now offer) ∧
      (withdraw.due.declaration = true ∧ (withdraw.sub? 16383).bind Subscriber.pending = some (pend .withdraw) ∧
        ((7 : Fin 8), LoadItem.control .withdraw 16383 200 5) ∈ onAirItems withdraw.now withdraw ∧
        (5, none) ∈ withdraw.coolDown) := by decide

theorem witness_ControlItemsOnAir_stale :
    let stale := fun w : Win => { onAir0 sub0 msg0 [{ acked with items := [.control .withdraw 16383 200 5] }] with
      coolDown := [(5, some w), (6, none)] }
    ((stale 5).due.declaration = true ∧ ((stale 5).sub? 16383).bind Subscriber.pending = none ∧
      ((7 : Fin 8), LoadItem.control .withdraw 16383 200 5) ∈ onAirItems (stale 5).now (stale 5)) ∧
      ((5, some 5) ∈ (stale 5).coolDown ∧ winLater ((stale 5).now + 4 + 2) 5 = true) ∧
      (winLater ((stale 6).now + 4 + 2) 6 = false ∧ (6, none) ∈ (stale 6).coolDown) := by decide

/-- A message SENT with its deadline one window ago. -/
def sent0 (x : Subscriber) (m : Message) : State :=
  { withMsg x { m with state := .sent, deadline := some 4 } st with clock.now := 5 }

theorem witness_DeadlineExamination :
    let s := sent0 sub0 { msg0 with backoff := 7 }
    (s.due.deadline = true ∧ s.msg? 1 = some { msg0 with backoff := 7, state := .sent, deadline := some 4 } ∧
      s.sub? 16383 = some { sub0 with queue := [1] } ∧ winLater s.now 4 = true) ∧
      (msg0.attempts < (s.plan sub0.plan).retryLimit + 1) ∧
      ((s.plan sub0.plan).retryLimit + 1 ≤ { msg0 with attempts := 1 }.attempts ∧ (s.plan sub0.plan).hold = false) ∧
      ({ Plan.reset with hold := true }.hold = true) ∧ 0 < { msg0 with repeats := 1 }.repeats ∧ msg0.repeats = 0 ∧
      (msg0.overdue s.now = false) := by decide

/-- An open entry of the subscriber, first heard two windows ago. -/
def entry0 : MergeEntry := { kind := .ack, slot := 16383, pager := 200, seq := 63, first := 3, sites := 0x8000 }

theorem witness_MergeClose :
    let s := { withSub sub0 st with clock.now := 5, merge := [entry0] }
    s.due.mergeClose = true ∧ s.settings.mergeSpan ≤ (s.now - entry0.first).toNat ∧ s.sub? 16383 = some sub0 ∧
      sub0.twoWay = true ∧ sub0.pager = entry0.pager := by decide

/-- Two entries of one slot close at once; the sites of the newer lie outside the service area. -/
theorem witness_MergeClose_two :
    let older := { entry0 with kind := .gap, sites := 1 }
    let s := { withSub sub0 st with clock.now := 5, merge := [older, entry0] }
    (s.merge.filter fun e => decide (s.settings.mergeSpan ≤ (s.now - e.first).toNat) && decide (e.slot = 16383)) =
        [] ++ older :: [entry0] ∧ s.sub? 16383 = some sub0 ∧ sub0.twoWay = true ∧ sub0.pager = older.pager ∧
      zonesOfSites s.settings older.sites &&& sub0.area ≠ 0 ∧ zonesOfSites s.settings entry0.sites &&& sub0.area = 0 ∧
      s.sub? 5 = none := by decide

/-- An offer wait entry whose deadline was one window ago. -/
def wait0 (offers : Nat) : State :=
  { withSub { sub0 with tag := some 5, tagState := .offered, offers := offers } st with
    tags := [(5, 16383)], clock.now := 5, offerWait := [{ slot := 16383, tag := 5, deadline := 4 }] }

theorem witness_OfferDeadline :
    ((wait0 1).due.offerDeadline = true ∧ ((wait0 1).offerWait.map OfferWait.slot).Nodup ∧ winLater (wait0 1).now 4 = true ∧
      winLater (wait0 1).now 5 = false) ∧
      ((wait0 1).sub? 16383).map Subscriber.offers = some 1 ∧
      (((wait0 2).sub? 16383).map Subscriber.offers = some 2 ∧ (wait0 2).inFlight 16383 = false) ∧
      (onAir0 sub0 msg0 []).inFlight 16383 = true := by decide

theorem witness_IdleRelease :
    { tagged with clock.now := 2881 }.due.idleRelease = true ∧ TagsPlaced { tagged with clock.now := 2881 } ∧
      winLater ({ tagged with clock.now := 2881 }.now - BitVec.ofNat 32 (tagged.settings.tagIdle * 96)) 0 = true :=
  ⟨by decide, ⟨tagged_placed.canonical, tagged_placed.once, tagged_placed.agree⟩, by decide⟩

theorem witness_WindowStartSends :
    let test := withZone0 fun x => { x with link := .test }
    let linked := withZone0 fun x => { x with link := .linked }
    st.due.probe.getLsbD 7 = true ∧ (linked.zone 7).link = .linked ∧ (linked.zone 7).onAir = false ∧
      (∀ ld ∈ (linked.zone 7).held, ld.xfer ≠ .sending) ∧ st.due.testLoad.getLsbD 7 = true ∧ (test.zone 7).link = .test ∧
      (st.zone 7).link ≠ .test := by decide

/-- A page with one record more to take, FILLING since window 0. -/
def filling (written : Nat) : State :=
  { scanning with portA := { scanning.portA with current := some { page0 with written := written }, queue := [.periodEnd 0 0 0] } }

theorem witness_SealDelayExpiry :
    let s := { filling 1 with clock.now := 8 }
    ((s.port .A).sealDue = true ∧ (s.port .A).area = some 0x10000 ∧
      (s.port .A).current = some { page0 with written := 1 } ∧ 0x10000 + 0x10000 ≤ page0.address) ∧
      (s.settings.sealDelay ≤ (s.now - page0.since).toNat) ∧ (s.port .A).locked = false ∧
      ¬ (s.settings.sealDelay ≤ ({ s with clock.now := 7 }.now - page0.since).toNat) := by decide

/-- A FREE entry with the lowest valid address. -/
def free0 : PageEntry := { address := 2048, mark := 1 }

theorem witness_PageChoice :
    let s := { scanning with portA.queue := [.delivery 1], portA.search := 15 }
    let unused : List (Option PageEntry) := List.replicate 16 (some { address := 0, mark := 0 })
    ((s.port .A).queue ≠ [] ∧ (s.port .A).current = none ∧ (s.port .A).stalled = false) ∧
      ({ s with portA.area := none }.port .A).area = none ∧ (s.port .A).area = some 0x10000 ∧
      (∀ j < 16, ∃ e, unused.getD j none = some e ∧ e.mark = 0) ∧
      ((unused.set 14 (some free0)).getD 14 none = some free0 ∧ free0.mark = 1 ∧ free0.address ≠ 0 ∧
        free0.address.toNat % 2048 = 0) := by
  refine ⟨by decide, by decide, by decide, fun j hj => ?_, by decide⟩
  exact ⟨{ address := 0, mark := 0 }, by interval_cases j <;> rfl, rfl⟩

theorem witness_PageChoice_errors :
    let s := { scanning with portA.queue := [.delivery 1], portA.search := 15 }
    let unused : Option PageEntry := some { address := 0, mark := 0 }
    let pages := fun e : Option PageEntry => e :: List.replicate 15 unused
    ((s.port .A).queue ≠ [] ∧ (s.port .A).current = none ∧ (s.port .A).stalled = false) ∧
      ((s.port .A).search.val + 0) % 16 = 15 ∧ ((s.port .A).search.val + 1) % 16 = 0 ∧
      (∀ e, (pages e).getD 15 none = unused ∧ (pages e).getD 0 none = e) ∧
      ({ filling := true : Bus }.filling = true ∧ free0.mark = 1 ∧ free0.address.toNat % 2048 = 0) :=
  ⟨by decide, by decide, by decide, fun _ => ⟨rfl, rfl⟩, by decide⟩

theorem witness_JournalRecordWrite :
    let s := filling 62
    (s.port .A).area = some 0x10000 ∧ (s.port .A).current = some page0 ∧ (s.port .A).queue = [.periodEnd 0 0 0] ∧
      (s.port .A).recordOwed = false ∧ page0.sealOwed = false ∧ page0.written < 63 ∧
      0x10000 + 0x10000 ≤ page0.address ∧ page0.written = 62 ∧ { page0 with written := 61 }.written < 62 ∧
      (s.port .A).locked = false := by decide

theorem witness_JournalRecordWrite_message :
    let m := { msg0 with state := .final, owesOutcome := true, charge := some 7, disposition := some .delivered }
    let s := fun it : Item => { withMsg sub0 m (filling 61) with portA.queue := [it] }
    ((s (.outcome 1)).port .A).queue = .outcome 1 :: [] ∧ (s (.outcome 1)).msg? 1 = some m ∧
      ((s (.delivery 1)).port .A).queue = .delivery 1 :: [] ∧ (s (.delivery 1)).msg? 1 = some m ∧
      ((s (.outcome 1)).port .A).current = some { page0 with written := 61 } := by decide

theorem witness_ReportWritten :
    let m := { msg0 with state := .final, owesOutcome := true }
    (withMsg sub0 m st).msg? 1 = some m ∧ m.owesOutcome = true ∧ m.owesDelivery = false ∧
      { m with owesDelivery := true }.owesDelivery = true ∧ m.chained :=
  ⟨by decide, by decide, by decide, by decide, tone_chained (by decide)⟩

theorem witness_HeaderRefreshed :
    (scanning.port .A).headerDue = true ∧ (scanning.port .A).area = some 0x10000 ∧
      ∃ t, exec (.headerRefresh .A {}) scanning = .next t := ⟨by decide, by decide, _, rfl⟩

theorem witness_ScanEnd :
    let r : ScanRun := { start := 60, examined := 0, lastTaken := none, answered := false }
    ((scanning.port .A).scan = some r ∧ (scanning.port .A).kept = [] ∧ (scanning.port .A).stalled = false ∧
      (scanning.port .A).recordOwed = false ∧ (scanning.port .A).current = none) ∧
      { r with lastTaken := some 63 }.lastTaken = some 63 ∧
      ({ scanning with portA.stalled := true }.port .A).stalled = true ∧ (scanning.port .A).area = some 0x10000 ∧
      (scanning.port .A).scan.isSome = true := by decide

/-- Port A at the end of a scan, with a page whose seal or a record whose write is owed, or a stalled journal. -/
theorem witness_ScanEnd_journal :
    let s := fun (cur : Option Page) (stalled record : Bool) => { scanning with portA := { scanning.portA with
      current := cur, stalled := stalled, recordOwed := record, queue := [.periodEnd 0 0 0] } }
    let owed := { page0 with sealOwed := true }
    let bad : PageEntry := { address := 5, mark := 1 }
    let pages : List (Option PageEntry) := [some bad, some { address := 0, mark := 3 }, some free0, none]
    (∀ cur stalled record, ((s cur stalled record).port .A).kept = [] ∧
      ((s cur stalled record).port .A).scan.isSome = true ∧ ((s cur stalled record).port .A).area = some 0x10000) ∧
      (((s (some owed) false false).port .A).current = some owed ∧ owed.sealOwed = true) ∧
      (((s (some page0) false true).port .A).recordOwed = true ∧ page0.sealOwed = false ∧ page0.written < 63) ∧
      (((s none true false).port .A).stalled = true ∧ ((s none true false).port .A).current = none) ∧
      (pages.getD 0 none = some bad ∧ bad.mark = 1 ∧ bad.address.toNat % 2048 ≠ 0 ∧ pages.getD 2 none = some free0 ∧
        pages.getD 3 none = none) := by
  refine ⟨fun _ _ _ => ⟨rfl, rfl, rfl⟩, by decide, by decide, by decide, by decide⟩

/-- The slip at index 59, the last that the scan from 60 reaches. -/
theorem taking0 (s : State) (h : s.canTake .A 59 = true) (k : (s.port .A).kept = []) : Taking .A 59 {} s :=
  ⟨h, k, rfl, rfl, rfl⟩

theorem witness_SlipBusErrors :
    slipOf (.query .A 59 1 { slipRead := true }) = some (.A, 59, { slipRead := true }) ∧
      slipOf (.query .A 59 1 { answer := true }) = some (.A, 59, { answer := true }) ∧
      slipOf (.query .A 59 1 { mark := true }) = some (.A, 59, { mark := true }) ∧
      scanning.canTake .A 59 = true ∧ (scanning.port .A).kept = [] ∧
      (let s := { scanning with portA := { scanning.portA with
         kept := [(59, { code := .done })],
         scan := some { start := 60, examined := 63, lastTaken := none, answered := false } } }
       s.canTake .A 59 = true ∧ (s.port .A).kept = [(((59 : Fin 64) : Nat), { code := .done })] ∧
       63 = ScanRun.offset { start := 60, examined := 63, lastTaken := none, answered := false } 59 ∧
       (0#64).getLsbD 59 = false) := by decide

/-- A walk at a position. -/
def walking (n : Nat) (x : Subscriber) : State :=
  { withSub x scanning with walk := { running := true, position := n, newPeriod := 1, count := 0 } }

theorem witness_PeriodWalk :
    ((walking 16383 sub0).walk.running = true ∧ (walking 16383 sub0).walk.position < 16384 ∧
      (walking 16383 sub0).control.holder = some .A ∧
      ((walking 16383 sub0).port .A).queue.countP Item.isRecord < 64 ∧ (walking 16383 sub0).sub? 16383 = some sub0 ∧
      sub0.account.period ≠ (walking 16383 sub0).walk.newPeriod) ∧
      (walking 0 sub0).sub? 0 = none ∧
      { sub0 with account.period := 1 }.account.period = (walking 16383 sub0).walk.newPeriod ∧
      (walking 16384 sub0).walk.position = 16384 ∧ { walking 0 sub0 with control.holder := none }.control.holder = none ∧
      st.walk.running = false := by decide

theorem witness_LineBytes :
    let s := withLine0 fun x => { x with state := .opened }
    let a := withLine0 fun x => { x with state := .opened, rx := .assembling 0 2000, buffer := [1, 2] }
    (st.line 7).state = .closed ∧ ((s.line 7).state ≠ .closed ∧ (s.line 7).rx = .hunting) ∧ (0x7D : Byte) ≠ 0x7E ∧
      ((a.line 7).state ≠ .closed ∧ (a.line 7).rx = .assembling 0 2000 ∧ frameShort ((a.line 7).buffer ++ [251])) ∧
      ((withLine0 fun x => { x with answers := [.busy 1] }).line 7).answers = .busy 1 :: [] := by
  refine ⟨by decide, by decide, by decide, ⟨by decide, by decide, Or.inr (by decide)⟩, by decide⟩

/-- A line in a state that has a frame in assembly. -/
def receiving (state : LineState) (buf : List Byte) : State :=
  withLine0 fun x => { x with state := state, rx := .assembling 0 2000, buffer := buf }

/-- The body of a SUBMIT to subscriber 100: class ROUTINE, TONE, no text. -/
def body0 : List Byte := [0, 0, 0, 100, 3, 0, 0]

theorem witness_LineFrames :
    (((receiving .opened [2, 9, 0]).line 7).rx = .assembling 0 2000 ∧
      ((receiving .opened [2, 9, 0]).line 7).buffer = [2, 9, 0] ∧
      ((receiving .opened [2, 9, 0]).line 7).answers.length < 8 ∧ ((receiving .opened [2, 9, 0]).line 7).state = .opened ∧
      ((receiving .quiet [2, 9, 0]).line 7).state = .quiet) ∧
      (let s := withSub sub0 (receiving .opened ([1, 9, 7] ++ body0))
       ((s.line 7).state = .opened ∧ (s.line 7).buffer = [1, 9, BitVec.ofNat 8 body0.length] ++ body0 ∧
         7 ≤ body0.length ∧ body0.length ≤ 251 ∧ body0.length = 7 + (body0.getD 6 0).toNat ∧
         (s.line 7).answers.length < 8 ∧ (s.line 7).lastTaken = none ∧ (body0.getD 5 0).toNat ≤ 2) ∧
       Degraded (body0.getD 4 0) (body0.getD 5 0) (body0.drop 7)
         ⟨.routine, .tone, [], false, false⟩ ∧ 2 < (3 : Byte).toNat) :=
  ⟨by decide, by decide, ⟨by decide, by decide, fun _ => by decide, fun h => absurd h (by decide)⟩, by decide⟩

/-- A NUMERIC of 41 letters: 40 spaces are carried. -/
theorem test_degraded_numeric :
    degrade 4 1 (List.replicate 41 0x41) =
      some { cls := .routine, kind := .numeric, text := List.replicate 40 0x20, truncated := true, altered := true } := by
  decide

theorem witness_LineFrames_quiet :
    let s := receiving .quiet ([1, 9, 7] ++ body0)
    (s.line 7).rx = .assembling 0 2000 ∧ (s.line 7).state = .quiet ∧
      (s.line 7).buffer = [1, 9, BitVec.ofNat 8 body0.length] ++ body0 ∧ 7 ≤ body0.length ∧ body0.length ≤ 251 ∧
      body0.length = 7 + (body0.getD 6 0).toNat ∧ (s.line 7).answers.length < 8 := by decide

/-- Complete frames but for the check byte: of an unknown kind, a PROBE with a body, a SUBMIT whose length does not suit its
text, a good PROBE. -/
theorem witness_LineErrors_frames :
    (∀ buf ∈ ([[3, 9, 0], [2, 9, 1, 0], [1, 9, 7, 0, 0, 0, 100, 3, 0, 1], [2, 9, 0]] : List (List Byte)),
      ((receiving .opened buf).line 7).buffer = [buf.getD 0 0, 9, BitVec.ofNat 8 (buf.drop 3).length] ++ buf.drop 3) ∧
      ((3 : Byte) ≠ 1 ∧ (3 : Byte) ≠ 2) ∧ ([0] : List Byte) ≠ [] ∧ ¬ (7 = 7 + (1 : Byte).toNat) ∧
      (0 : Byte) ≠ crc8 [2, 9, 0] ∧
      8 ≤ (((receiving .opened [2, 9, 0]).modLine 7 fun x => { x with answers := List.replicate 8 (.busy 1) }).line 7).answers.length := by
  decide +kernel

theorem witness_LineErrors :
    (((receiving .opened [1, 2]).line 7).rx = .assembling 0 2000 ∧ ((receiving .opened [1, 2]).line 7).state ≠ .closed ∧
      min 255 (((receiving .opened [1, 2]).line 7).errorsSweep + 1) < (receiving .opened [1, 2]).settings.lineThreshold ∧
      ((receiving .opened [1, 2]).line 7).buffer.length = 2 ∧ 251 < (252 : Byte).toNat) ∧
      ((receiving .opened [1]).line 7).buffer.length < 2 ∧
      (let s := (receiving .opened [1]).modLine 7 fun x => { x with errorsSweep := 3 }
       (s.line 7).state = .opened ∧ s.settings.lineThreshold ≤ min 255 ((s.line 7).errorsSweep + 1)) := by decide

/-- A link one byte short of a well-made frame takes its last byte. -/
theorem arrives0 {s : State} {site : Fin 16} {kind b kb sq : Byte} {tag pager seq : Nat}
    (hb : b = BitVec.ofNat 8 site.val ∧ kb = kind ∧ sq = BitVec.ofNat 8 seq)
    (h : s.part = .ready ∧ tag < 4096 ∧ pager < 2 ^ 24 ∧ seq < 64 ∧ ¬ (tag = 0 ∧ pager = 0))
    (hrx : (s.replyLink 3).rx = some (reply0 b kb tag pager sq)) :
    ReplyArrives 3 (crc8 (reply0 b kb tag pager sq)) site kind tag pager seq s := by
  obtain ⟨rfl, rfl, rfl⟩ := hb
  exact ⟨h.1, h.2.1, h.2.2.1, h.2.2.2.1, h.2.2.2.2, hrx, rfl⟩

theorem witness_ReplyLinkBytes :
    (State.reset.part = .starting ∧ st.part = .ready ∧ (st.replyLink 3).rx = none) ∧
      (((withLink0 (List.replicate 7 1) st).replyLink 3).rx = some (List.replicate 7 1) ∧ st.due.replyDiscard.getLsbD 3 = true) ∧
      ReplyArrives 3 (crc8 (reply0 15 1 0 200 63)) 15 1 0 200 63 (withLink0 (reply0 15 1 0 200 63) st) ∧
      ReplyArrives 3 (crc8 (reply0 15 4 4095 0 63)) 15 4 4095 0 63 (withLink0 (reply0 15 4 4095 0 63) st) ∧
      Assoc.get? 200 st.pagers = none ∧ Assoc.get? 4095 st.tags = none ∧
      (let s := { withSub sub0 (withLink0 (reply0 15 1 0 200 63) st) with merge := [entry0] }
       Assoc.get? 200 s.pagers = some 16383 ∧ s.sub? 16383 = some sub0 ∧ s.merge = [entry0] ∧ entry0.pager = sub0.pager) :=
  ⟨by decide, by decide, arrives0 (by decide) (by decide) (by decide), arrives0 (by decide) (by decide) (by decide), by decide⟩

/-- A whole frame for each of the tests it fails: its check, its site, its kind, a REGISTER under a tag, a TAG-CONFIRM under
none, neither tag nor pager number, its sequence. -/
theorem witness_ReplyLinkBytes_bad :
    (∀ bs ∈ [reply0 15 1 0 200 63, reply0 16 1 0 200 63, reply0 15 5 0 200 63, reply0 15 3 4095 200 63,
        reply0 15 4 0 200 63, reply0 15 1 0 0 63, reply0 15 1 0 200 64],
      ((withLink0 bs st).replyLink 3).rx = some bs ∧ bs.length = 8) ∧
      crc8 (reply0 15 1 0 200 63) + 1 ≠ crc8 (reply0 15 1 0 200 63) ∧ (ReplyKind.ack.toNat = 1 ∧ st.part = .ready) := by
  decide +kernel

theorem witness_ReplyLinkBytes_known :
    let oneWay := withSub { sub0 with twoWay := false } (withLink0 (reply0 15 1 0 200 63) st)
    let offered := { withSub { sub0 with tag := some 4095, tagState := .offered } (withLink0 (reply0 15 4 4095 0 63) st) with
      tags := [(4095, 16383)], merge := [entry0, { entry0 with kind := .tagConfirm, seq := 0 }] }
    (ReplyArrives 3 (crc8 (reply0 15 1 0 200 63)) 15 (BitVec.ofNat 8 ReplyKind.ack.toNat) 0 200 63 oneWay ∧
      Assoc.get? 200 oneWay.pagers = some 16383 ∧ (oneWay.sub? 16383).map Subscriber.twoWay = some false) ∧
      (ReplyArrives 3 (crc8 (reply0 15 4 4095 0 63)) 15 (BitVec.ofNat 8 ReplyKind.tagConfirm.toNat) 4095 0 63 offered ∧
        Assoc.get? 4095 offered.tags = some 16383 ∧ (offered.sub? 16383).map Subscriber.tagState = some .offered ∧
        (offered.sub? 16383).bind Subscriber.pending = none ∧
        ∃ e ∈ offered.merge, e.kind = .tagConfirm ∧ e.slot = 16383 ∧ e.pager = 200 ∧ e.seq = 0) :=
  ⟨⟨arrives0 (by decide) (by decide) (by decide), by decide⟩, arrives0 (by decide) (by decide) (by decide), by decide⟩

theorem witness_RepliesActedOn :
    let ack := withMsg sub0 { msg0 with state := .held } (withLink0 (reply0 15 1 0 200 63) st)
    let waiting := withMsg sub0 msg0 (withLink0 (reply0 15 2 0 200 63) st)
    let offer : Pending := { kind := .offer, tag := 4095, due := 9, placed := false }
    let confirm := { withSub { sub0 with tag := some 4095, tagState := .offered, pending := some offer }
      (withLink0 (reply0 15 4 4095 0 0) st) with tags := [(4095, 16383)] }
    (ReplyArrives 3 (crc8 (reply0 15 1 0 200 63)) 15 1 0 200 63 ack ∧ ack.merge.length < 32 ∧
      Assoc.get? 200 ack.pagers = some 16383 ∧ ack.queuedWithSeq 16383 63 = some { msg0 with state := .held } ∧
      ack.queuedWithSeq 16383 62 = none) ∧
      (ReplyArrives 3 (crc8 (reply0 15 2 0 200 63)) 15 2 0 200 63 waiting ∧
        waiting.queuedWithSeq 16383 63 = some msg0 ∧ msg0.state = .waiting) ∧
      (ReplyArrives 3 (crc8 (reply0 15 4 4095 0 0)) 15 4 4095 0 0 confirm ∧
        Assoc.get? 4095 confirm.tags = some 16383 ∧ (confirm.sub? 16383).bind Subscriber.pending = some offer ∧
        offer.kind = .offer ∧ offer.placed = false) :=
  ⟨⟨arrives0 (by decide) (by decide) (by decide), by decide⟩, ⟨arrives0 (by decide) (by decide) (by decide), by decide⟩,
    arrives0 (by decide) (by decide) (by decide), by decide⟩

/-- A GAP of a message in this state, whose subscriber's plan holds on failure or does not. -/
def gapping (m : Message) (hold : Bool) : State :=
  withMsg sub0 m (withLink0 (reply0 15 2 0 200 63)
    { st with plans := Vector.replicate 16 { Plan.reset with hold := hold } })

theorem gapping_agrees (hold : Bool) : (∀ n, StoreAgrees (gapping { msg0 with state := .sent, attempts := n, deadline := some 4 } hold)) ∧
    StoreAgrees (gapping { msg0 with state := .retryWait, due := some 9 } hold) :=
  ⟨fun _ => withMsg_agrees ⟨rfl, rfl, rfl⟩ rfl ⟨rfl, rfl, by simp, rfl, rfl⟩ (tone_chained ⟨rfl, rfl⟩) (by simp [msg0]),
    withMsg_agrees ⟨rfl, rfl, rfl⟩ rfl ⟨rfl, rfl, by simp, rfl, rfl⟩ (tone_chained ⟨rfl, rfl⟩) (by simp [msg0])⟩

theorem witness_RepliesActedOn_gap :
    let m := fun n => { msg0 with state := .sent, attempts := n, deadline := some 4 }
    let s := gapping (m 0) false
    (ReplyArrives 3 (crc8 (reply0 15 2 0 200 63)) 15 2 0 200 63 s ∧ StoreAgrees s ∧
      s.queuedWithSeq 16383 63 = some (m 0) ∧ (m 0).attempts < (s.plan sub0.plan).retryLimit + 1) ∧
      (∀ hold, StoreAgrees (gapping (m 1) hold) ∧
        ((gapping (m 1) hold).plan sub0.plan).retryLimit + 1 ≤ (m 1).attempts ∧
        ((gapping (m 1) hold).plan sub0.plan).hold = hold) ∧
      ({ m 0 with serial := 2 }.slot = 16383 ∧ (m 0).state = .sent ∧ (m 0).serial < { m 0 with serial := 2 }.serial) :=
  ⟨⟨arrives0 (by decide) (by decide) (by decide), (gapping_agrees false).1 0, by decide, by decide⟩,
    fun hold => ⟨(gapping_agrees hold).1 1, by cases hold <;> decide, by cases hold <;> decide⟩, by decide⟩

theorem witness_RepliesActedOn_full :
    let s := { withSub sub0 (withLink0 (reply0 15 1 0 200 1) st) with merge := entry0 :: List.replicate 31 entry0 }
    (s.merge = entry0 :: List.replicate 31 entry0 ∧ (List.replicate 31 entry0).length = 31 ∧
      ReplyArrives 3 (crc8 (reply0 15 1 0 200 1)) 15 (BitVec.ofNat 8 ReplyKind.ack.toNat) 0 200 1 s ∧
      Assoc.get? 200 s.pagers = some 16383 ∧ s.sub? 16383 = some sub0) ∧
      (∀ x ∈ s.merge, x.seq ≠ 1) ∧ (entry0.slot = 16383 ∧ sub0.twoWay = true ∧ sub0.pager = entry0.pager) :=
  ⟨⟨rfl, rfl, arrives0 (by decide) (by decide) (by decide), by decide, by decide⟩, by decide, by decide⟩

theorem witness_Registration :
    let s := { withMsg sub0 { msg0 with state := .held, round := 3 } (withLink0 (reply0 15 3 0 200 0) st) with tagFree := [4095] }
    ReplyArrives 3 (crc8 (reply0 15 3 0 200 0)) 15 3 0 200 0 s ∧ s.merge = [] ∧ Assoc.get? 200 s.pagers = some 16383 ∧
      s.sub? 16383 = some { sub0 with queue := [1] } ∧ sub0.tag = none ∧ sub0.pending = none ∧ s.tagFree = [4095] ∧
      s.msg? 1 = some { msg0 with state := .held, round := 3 } :=
  ⟨arrives0 (by decide) (by decide) (by decide), by decide⟩

/-- A REGISTER of pager 200 is one byte short. -/
def registering (x : Subscriber) (m : Message) : State := withMsg x m (withLink0 (reply0 15 3 0 200 0) st)

theorem witness_Registration_known :
    let holder := registering { sub0 with tag := some 4095, tagState := .confirmed } msg0
    let withdrawn := registering { sub0 with pending := some { kind := .withdraw, tag := 5, due := 9, placed := false } } msg0
    let retry := registering sub0 { msg0 with state := .retryWait, due := some 9 }
    (ReplyArrives 3 (crc8 (reply0 15 3 0 200 0)) 15 3 0 200 0 holder ∧ holder.merge = [] ∧
      Assoc.get? 200 holder.pagers = some 16383 ∧ (holder.sub? 16383).bind Subscriber.tag = some 4095 ∧
      (holder.sub? 16383).bind Subscriber.pending = none) ∧
      ((withdrawn.sub? 16383).bind Subscriber.tag = none ∧
        (withdrawn.sub? 16383).bind Subscriber.pending = some { kind := .withdraw, tag := 5, due := 9, placed := false }) ∧
      (ReplyArrives 3 (crc8 (reply0 15 3 0 200 0)) 15 3 0 200 0 retry ∧
        retry.msg? 1 = some { msg0 with state := .retryWait, due := some 9 }) :=
  ⟨⟨arrives0 (by decide) (by decide) (by decide), by decide⟩, by decide, arrives0 (by decide) (by decide) (by decide), by decide⟩

theorem witness_Registration_release :
    let s := registering sub0 { msg0 with state := .held, round := 4 }
    ReplyArrives 3 (crc8 (reply0 15 3 0 200 0)) 15 3 0 200 0 s ∧ StoreAgrees s ∧ s.retryCounts.releases ≤ 65535 ∧
      s.sub? 16383 = some { sub0 with queue := [1] } ∧
      s.msg? 1 = some { msg0 with state := .held, round := 4 } :=
  ⟨arrives0 (by decide) (by decide) rfl,
    withMsg_agrees ⟨rfl, rfl, rfl⟩ rfl ⟨rfl, rfl, by simp, rfl, rfl⟩ (tone_chained ⟨rfl, rfl⟩) (by simp [msg0]), by decide, rfl, rfl⟩

/-- The free list is empty; another subscriber, in slot 5, holds tag 4,095 and has been heard. -/
def reclaiming (state : TagState) : State :=
  let s := registering sub0 msg0
  { s with slots := (5, { sub := some { holder0 with tagState := state }, finalCount := 0 }) :: s.slots, tags := [(4095, 5)] }

theorem reclaiming_placed (state : TagState) : TagsPlaced (reclaiming state) := by
  refine ⟨List.pairwise_singleton _ _, by simp [reclaiming, registering, withMsg, withSub, withLink0, st, State.reset],
    fun tag slot => ?_⟩
  have hsub : ∀ n, ((reclaiming state).sub? n).bind Subscriber.tag = if n = 5 then some 4095 else none := fun n => by
    by_cases h5 : n = 5
    · subst h5; rfl
    · by_cases hn : n = 16383 <;>
        simp [State.sub?, State.slot, reclaiming, registering, withMsg, withSub, Assoc.get?, h5, hn, sub0]
  rw [hsub]
  simp only [reclaiming, Assoc.get?]
  split <;> split <;> simp_all [eq_comm]

theorem witness_Registration_reclaim :
    let s := reclaiming .confirmed
    (ReplyArrives 3 (crc8 (reply0 15 3 0 200 0)) 15 3 0 200 0 s ∧ s.merge = [] ∧ Assoc.get? 200 s.pagers = some 16383 ∧
      (s.sub? 16383).bind Subscriber.tag = none ∧ (s.sub? 16383).bind Subscriber.pending = none ∧ s.tagFree = []) ∧
      TagsPlaced s ∧
      ((4095, 5) ∈ s.tags ∧ s.sub? 5 = some holder0 ∧ holder0.tagState = .confirmed ∧ holder0.lastReply = some 0 ∧
        s.inFlight 5 = false) ∧
      (TagsPlaced (reclaiming .offered) ∧ ((reclaiming .offered).sub? 5).map Subscriber.tagState = some .offered) :=
  ⟨⟨arrives0 (by decide) (by decide) (by decide), by decide⟩, reclaiming_placed _, by decide, reclaiming_placed _, by decide⟩

/-- A controller answer of nine bytes. -/
def answer0 (kind : Byte) (w : Win) (status : Byte) : List Byte :=
  let bs := [kind, 7] ++ beBytes 4 w.toNat ++ [status]
  bs ++ crc16Bytes bs

theorem witness_StrayAndEchoAnswers :
    (answerLength 1 = some ((answer0 1 2 0).tail.dropLast.length + 2) ∧ answerCheck (answer0 1 2 0) = true ∧
      (st.zone 7).sending = none ∧ (st.zone 7).probeMs = none ∧ (st.zone 7).echo = none) ∧
      answerCheck (List.replicate 9 1) = false ∧
      (List.replicate 135 (0 : Byte)).length = 135 ∧
      (let e : EchoWait := { window := 0, body := [], sentMs := 0 }
       ((withZone0 fun x => { x with echo := some e }).zone 7).echo = some e) := by decide +kernel

theorem witness_StrayAndEchoAnswers_late :
    let s := fun w : Win => withZone0 fun x => { x with
      link := .linked, held := [{ load0 with window := w, xfer := .sending }], rxBytes := (answer0 1 0 1).dropLast }
    (answerCheck (answer0 1 0 1) = true ∧ ((s 0).zone 7).sending = some { load0 with window := 0, xfer := .sending } ∧
      winLater 0 (s 0).now = false ∧ ((s 0).zone 7).rxBytes = 1 :: (answer0 1 0 1).tail.dropLast) ∧
      (((s 2).zone 7).sending = some { load0 with xfer := .sending } ∧ load0.window ≠ answerWindow (answer0 1 0 1)) ∧
      (let probed := withZone0 fun x => { x with link := .linked, probeMs := some 0 }
       (probed.zone 7).probeMs.isSome = true ∧ (probed.zone 7).link = .linked ∧ (probed.zone 7).held = [] ∧
         min 255 ((probed.zone 7).errorsSweep + 1) < probed.settings.zoneThreshold) := by decide +kernel

/-- The error of a failed probe reaches the threshold. -/
theorem witness_StrayAndEchoAnswers_breaks :
    let s := withZone0 fun x => { x with link := .linked, probeMs := some 0, errorsSweep := 2, rxBytes := List.replicate 8 3 }
    (s.zone 7).probeBreaks s.settings.zoneThreshold ∧ (s.zone 7).rxBytes ≠ [] ∧
      answerCheck (List.replicate 9 3) = false ∧ { s.zone 7 with rxBytes := [] }.probeBreaks s.settings.zoneThreshold :=
  ⟨⟨by decide, by decide, by decide⟩, by decide, by decide +kernel, by decide, by decide, by decide⟩

/-- A LOAD-OK or LOAD-BAD whose status is ON-AIR, while the status held is OFF-AIR. -/
theorem witness_ControllerAnswers_status :
    let ld := { load0 with xfer := .sending, sends := 2 }
    let s := fun (kind : Byte) (errors : Nat) => withZone0 fun x => { x with
      link := .linked, held := [ld], errorsSweep := errors, rxBytes := (answer0 kind 2 1).take 8 }
    let bs := fun kind : Byte => [kind, 7] ++ beBytes 4 ld.window.toNat ++ [if true then 1#8 else 0#8]
    (((s 1 0).zone 7).held = [ld] ∧ ld.xfer = .sending ∧ ((s 1 0).zone 7).link = .linked ∧ ((s 1 0).zone 7).onAir = false ∧
      winLater ld.window (s 1 0).now = true ∧ ld.sends < 3) ∧
      (∀ kind ∈ ([1, 2] : List Byte), ((s kind 0).zone 7).rxBytes = bs kind ++ (crc16Bytes (bs kind)).take 1) ∧
      min 255 (((s 2 0).zone 7).errorsSweep + 1) < (s 2 0).settings.zoneThreshold ∧
      (s 2 2).settings.zoneThreshold ≤ min 255 (((s 2 2).zone 7).errorsSweep + 1) := by decide +kernel

theorem witness_ControllerAnswers_linked :
    let s := withZone0 fun x => { x with link := .linked, probeMs := some 0, rxBytes := (answer0 3 0 1).take 8 }
    (s.zone 7).rxBytes = ([3, 7] ++ beBytes 4 0 ++ [1]) ++ (crc16Bytes ([3, 7] ++ beBytes 4 0 ++ [1])).take 1 ∧
      (s.zone 7).probeMs.isSome = true ∧ (s.zone 7).held = [] ∧ (s.zone 7).link = .linked ∧ true ≠ (s.zone 7).onAir ∧
      winLater load0.window s.now = true := by decide +kernel

theorem witness_ControllerAnswers :
    (let ld := { load0 with xfer := .sending, sends := 2 }
     let s := withZone0 fun x => { x with link := .linked, held := [ld], rxBytes := (answer0 2 2 0).take 8 }
     (s.zone 7).held = [ld] ∧ ld.sends < 3 ∧ (s.zone 7).link = .linked ∧ winLater ld.window s.now = true ∧
       min 255 ((s.zone 7).errorsSweep + 1) < s.settings.zoneThreshold ∧
       (s.zone 7).rxBytes = ([2, 7] ++ beBytes 4 ld.window.toNat ++ [0]) ++
         (crc16Bytes ([2, 7] ++ beBytes 4 ld.window.toNat ++ [0])).take 1) ∧
      (let s := withZone0 fun x => { x with link := .sync, probeMs := some 0, goodProbes := 1, rxBytes := (answer0 3 0 1).take 8 }
       (s.zone 7).rxBytes = ([3, 7] ++ beBytes 4 0 ++ [1]) ++ (crc16Bytes ([3, 7] ++ beBytes 4 0 ++ [1])).take 1 ∧
       (s.zone 7).probeMs.isSome = true ∧ (s.zone 7).link = .sync ∧ (s.zone 7).held = [] ∧ 1 ≤ (s.zone 7).goodProbes) ∧
      (st.zone 7).goodProbes = 0 := by decide +kernel

theorem witness_ControllerAnswers_begin :
    let s := fun (kind : Byte) => withZone0 fun x =>
      { x with link := .linked, held := twoLoads, rxBytes := (answer0 kind 1 0).take 8 }
    let bs := fun kind : Byte => [kind, 7] ++ beBytes 4 1 ++ [0]
    let ends := fun x : Xfer => ((s 1).zone 7).held.map fun y : Load => if y.window = 1 then { y with xfer := x } else y
    ((twoLoads.map Load.window).Nodup ∧ ((s 1).zone 7).link = .linked ∧ ((s 1).zone 7).probeMs = none ∧
      (∀ x ∈ ((s 1).zone 7).held, x.window ≠ 1 → x.xfer ≠ .sending)) ∧
      (∀ kind ∈ ([1, 2] : List Byte), ((s kind).zone 7).rxBytes = bs kind ++ (crc16Bytes (bs kind)).take 1) ∧
      (∀ x ∈ [Xfer.acknowledged, .abandoned], BeginsSend (s 1).now (ends x) load0
        [{ load0 with window := 1, xfer := x, sends := 3 }, { load0 with xfer := .sending, sends := 1 }]) ∧
      (let s := withZone0 fun x => { x with
         link := .down, probeMs := some 0, goodProbes := 1, held := [load0], rxBytes := (answer0 3 0 1).take 8 }
       (s.zone 7).link = .down ∧ BeginsSend s.now (s.zone 7).held load0 [{ load0 with xfer := .sending, sends := 1 }]) := by
  refine ⟨by decide, by decide +kernel, fun x hx => ?_, by decide, ⟨[], [], by decide, by decide, by decide, by decide, by decide⟩⟩
  rcases List.mem_pair.1 hx with rfl | rfl
  · exact ⟨[{ load0 with window := 1, xfer := .acknowledged, sends := 3 }], [], by decide, by decide, by decide, by decide,
      by decide⟩
  · exact ⟨[{ load0 with window := 1, xfer := .abandoned, sends := 3 }], [], by decide, by decide, by decide, by decide,
      by decide⟩

theorem witness_AnswersAndTimeouts :
    ((st.zone 7).rxBytes = [] ∧ (st.zone 7).probeMs = none ∧ (st.zone 7).echo = none) ∧
      answerLength 1 ≠ some ([] : List Byte).length.succ.succ ∧
      ((withZone0 fun x => { x with rxBytes := [1] }).zone 7).rxBytes ≠ [] ∧
      (let s := withZone0 fun x => { x with link := .down, probeMs := some 0 }
       (s.zone 7).probeMs = some 0 ∧ (s.zone 7).link = .down) ∧
      (let s := withZone0 fun x => { x with link := .linked, held := [{ load0 with xfer := .sending, sends := 3 }] }
       (s.zone 7).held = [{ load0 with xfer := .sending, sends := 3 }] ∧ (s.zone 7).link = .linked ∧
       min 255 ((s.zone 7).errorsSweep + 1) < s.settings.zoneThreshold) ∧
      (let s := withZone0 fun x => { x with link := .linked, errorsSweep := 2 }
       s.settings.zoneThreshold ≤ min 255 ((s.zone 7).errorsSweep + 1)) := by decide

theorem witness_AnswersAndTimeouts_exchange :
    (let s := withZone0 fun x => { x with link := .sync, probeMs := some 0, rxBytes := [1] }
     (s.zone 7).quietFailure s.settings.zoneThreshold ∧ (s.zone 7).rxBytes ≠ [] ∧ (s.zone 7).probeMs.isSome = true) ∧
      (let s := withZone0 fun x => { x with link := .test, echo := some { window := 0, body := [], sentMs := 0 } }
       (s.zone 7).quietFailure s.settings.zoneThreshold ∧ (s.zone 7).rxBytes = [] ∧ (s.zone 7).echo.isSome = true) ∧
      (let ld := { load0 with xfer := .sending, sends := 2 }
       let s := withZone0 fun x => { x with link := .linked, held := [ld] }
       (s.zone 7).held = [ld] ∧ ld.sends < 3 ∧ winLater ld.window s.now = true ∧
         winLater ({ ld with window := 0 } : Load).window s.now = false) :=
  ⟨⟨fun _ h => absurd h (by decide), by decide, by decide⟩, ⟨fun h => absurd h (by decide), by decide, by decide⟩, by decide⟩

/-! #### Slips -/

/-- A slip is taken at a READY port that holds control. -/
theorem taken (s : State) (h : s.canTake .A 59 = true ∧ (s.port .A).kept = [] ∧ s.part = .ready ∧
    s.control.holder = some .A) : Taking .A 59 {} s ∧ s.part = .ready ∧ s.control.holder = some .A :=
  ⟨taking0 s h.1 h.2.1, h.2.2⟩

/-- A SUBMIT of a TEXT to subscriber 100. -/
def submit0 (kind : Byte) (text : List Byte) : SubmitReq :=
  { number := 100, cls := 3, kind := kind, clientRef := 0, expiry := 96, text := text }

/-- The TEXT "A" of class ROUTINE, prepared. -/
def degraded0 : Prepared' := { cls := .routine, kind := .text, text := [0x41], truncated := false, altered := false }

theorem witness_SubmitSlips :
    let s := withSub sub0 scanning
    (Taking .A 59 {} s ∧ s.part = .ready) ∧ 2 < (submit0 3 []).kind.toNat ∧
      ((submit0 1 (List.replicate 41 0x30)).kind = 1 ∧ 40 < (List.replicate 41 (0x30 : Byte)).length) ∧
      (∃ d, Degraded 3 2 [0x41] d ∧ d.truncated = false ∧
        ∃ m, checkSubmission { origin := .port .A, clientRef := 0, number := 100, expiry := 96, body := d } s = .ok m) ∧
      (∃ d, Degraded 3 2 [0x41] d ∧
        checkSubmission { origin := .port .A, clientRef := 0, number := 99, expiry := 96, body := d } s = .error .unknown) :=
  ⟨⟨taking0 _ (by decide) (by decide), by decide⟩, by decide, by decide,
    ⟨degraded0, ⟨by decide, by decide, fun h => absurd h (by decide), fun _ => by decide⟩, by decide, _, rfl⟩,
    ⟨degraded0, ⟨by decide, by decide, fun h => absurd h (by decide), fun _ => by decide⟩, rfl⟩⟩

theorem witness_Acceptance :
    let s := withSub sub0 scanning
    Assoc.get? 99 s.numbers = none ∧ (Assoc.get? 100 s.numbers = some 16383 ∧ s.sub? 16383 = some sub0) ∧
      sub0.state = .active ∧ (s.plan sub0.plan).allowTone = true ∧ sub0.queue.length < (s.plan sub0.plan).queueLimit ∧
      1 ≤ s.freePlaces ∧ 0 ≤ s.freeBlocks ∧ (s.plan sub0.plan).kind ≠ .prepaid ∧
      { sub0 with state := .suspended }.state = .suspended ∧
      (s.plan sub0.plan).queueLimit ≤ [1, 2, 3, 4].length ∧ { s with freePlaces := 0 }.freePlaces = 0 := by decide

theorem witness_CancelAndRelease :
    let s := withMsg sub0 { msg0 with state := .held, round := 3 } scanning
    (Taking .A 59 {} s ∧ s.part = .ready ∧ s.control.holder = some .A) ∧ s.msg? 2 = none ∧
      s.msg? 1 = some { msg0 with state := .held, round := 3 } ∧ s.sub? 16383 = some { sub0 with queue := [1] } ∧
      ¬ (({ s with control.holder := some .B } : State).control.holder = some .A ∨
        { msg0 with origin := .line 0 }.origin = .port .A) ∧ 4 ≤ { msg0 with round := 4 }.round :=
  ⟨taken _ (by decide), by decide, by decide, by decide, by decide, by decide⟩

theorem witness_ReadsChangeNothing :
    let s := withMsg sub0 msg0 scanning
    (Taking .A 59 {} s ∧ s.part = .ready ∧ s.control.holder = some .A) ∧ s.msg? (1 : Word).toNat = some msg0 ∧
      Names { selector := 0, name := 16383 } 16383 s ∧ Names { selector := 1, name := 100 } 16383 s ∧
      (15 : Word).toNat = (15 : Fin 16).val ∧ (7 : Word).toNat = (7 : Fin 8).val ∧
      (s.msg? (2 : Word).toNat = none ∧ 16 ≤ (16 : Word).toNat ∧ 8 ≤ (8 : Word).toNat) := by
  refine ⟨taken _ (by decide), by decide, Or.inl (by decide), Or.inr (by decide), by decide, by decide, by decide⟩

/-- An ADD to the last slot at the limits of its numbers. -/
def add0 : AddReq :=
  { slot := 16383, number := 99999999, pager := 0xFFFFFF, plan := 15, twoWay := true, home := 96, wake := 4, area := 0x80,
    override := false, ownBase := 0, ownCell := 0 }

theorem witness_SubscriberAdd :
    (Taking .A 59 {} scanning ∧ scanning.part = .ready ∧ scanning.control.holder = some .A) ∧
      add0.slot.toNat ≤ 16383 ∧ scanning.sub? 16383 = none ∧ (scanning.slot 16383).finalCount = 0 ∧ add0.number ≠ 0 ∧
      add0.number.toNat ≤ 99999999 ∧ add0.pager ≠ 0 ∧ Assoc.get? 99999999 scanning.numbers = none ∧
      Assoc.get? 0xFFFFFF scanning.pagers = none ∧ add0.area ≠ 0 ∧ add0.plan.toNat = (15 : Fin 16).val ∧
      (3 : Fin 4).val = min 3 add0.wake.toNat ∧ 16383 < (16384 : Word).toNat ∧
      ((withSub sub0 scanning).sub? 16383).isSome = true :=
  ⟨taken _ (by decide), by decide⟩

theorem witness_SubscriberModify :
    let x := { sub0 with tag := some 4095, tagState := .confirmed }
    let s := { withSub x scanning with tags := [(4095, 16383)] }
    (Taking .A 59 {} s ∧ s.part = .ready ∧ s.control.holder = some .A) ∧
      Names { selector := 1, name := 100 } 16383 s ∧ s.sub? 16383 = some x ∧
      ((201 : BitVec 24) ≠ 0 ∧ Assoc.get? (201 : BitVec 24).toNat s.pagers = none ∧ (201 : BitVec 24).toNat ≠ x.pager ∧
        s.inFlight 16383 = false ∧ x.pending = none) ∧
      (onAir0 sub0 msg0 []).inFlight 16383 = true ∧ min 95 (0 : Byte).toNat ≠ x.home ∧
      ((101 : Word) ≠ 0 ∧ Assoc.get? (101 : Word).toNat s.numbers = none ∧ (101 : Word).toNat ≠ x.number) :=
  ⟨taken _ (by decide), Or.inr (by decide), by decide, by decide, by decide, by decide, by decide⟩

theorem witness_SubscriberModify_values :
    let placed := { sub0 with pending := some { kind := .withdraw, tag := 5, due := 9, placed := true } }
    let s := { withMsg placed { msg0 with due := some 9 } scanning with coolDown := [(5, none)] }
    let flying := onAir0 sub0 msg0 []
    (Taking .A 59 {} s ∧ s.part = .ready ∧ s.control.holder = some .A) ∧
      (s.sub? 16383 = some { placed with queue := [1] } ∧ placed.tag = none ∧ s.inFlight 16383 = false) ∧
      (false ≠ sub0.twoWay ∧ true = sub0.twoWay) ∧ flying.inFlight 16383 = true ∧
      ((0 : Nat) = min 95 (0 : Byte).toNat ∧ ((0 : Fin 4) : Nat) = min 3 (0 : Byte).toNat ∧
        ((0 : Nat) ≠ sub0.home ∧ (0 : Fin 4) ≠ sub0.wake) ∧ ¬ ((95 : Nat) ≠ sub0.home ∨ (3 : Fin 4) ≠ sub0.wake)) ∧
      (s.msg? 1 = some { msg0 with due := some 9 } ∧ 1 ∈ [1] ∧ msg0.state = .waiting ∧
        { msg0 with state := .held }.state ≠ .waiting ∧ { msg0 with state := .held }.state ≠ .retryWait) :=
  ⟨taken _ (by decide), by decide, by decide, by decide, by decide, by decide⟩

theorem witness_SubscriberModify_refusals :
    let s := { withSub sub0 scanning with numbers := [(100, 16383), (101, 5)], pagers := [(200, 16383), (201, 5)] }
    (Taking .A 59 {} s ∧ s.part = .ready ∧ s.control.holder = some .A) ∧ Names { selector := 0, name := 16383 } 16383 s ∧
      s.sub? 16383 = some sub0 ∧ ((100000000 : Word) ≠ 0 ∧ 99999999 < (100000000 : Word).toNat) ∧
      (Assoc.get? (101 : Word).toNat s.numbers = some 5 ∧ Assoc.get? (201 : BitVec 24).toNat s.pagers = some 5) ∧
      Assoc.get? (100 : Word).toNat s.numbers = some 16383 ∧ 15 < (16 : Byte).toNat ∧
      ((202 : BitVec 24).toNat ≠ sub0.pager ∧ Assoc.get? (202 : BitVec 24).toNat s.pagers = none) :=
  ⟨taken _ (by decide), Or.inl (by decide), by decide, by decide, by decide, by decide, by decide, by decide⟩

theorem witness_SubscriberModify_area :
    let pd : Pending := { kind := .offer, tag := 5, due := 2, placed := true }
    let s := { withSub { sub0 with pending := some pd } scanning with zones := (handing [load0]).zones }
    (Taking .A 59 {} s ∧ s.part = .ready ∧ s.control.holder = some .A) ∧
      s.sub? 16383 = some { sub0 with pending := some pd } ∧ (0xF0 : ZoneSet) ≠ 0 ∧ 0xF0 ≠ sub0.area ∧
      (load0.window = pd.due ∧ load0.xfer = .awaiting ∧ load0 ∈ (s.zone 7).held ∧
        LoadItem.control .offer 16383 200 5 ∈ load0.items) :=
  ⟨taken _ (by decide), by decide, by decide, by decide, by decide⟩

theorem witness_SubscriberStates :
    let x := { sub0 with state := .suspended, tag := some 4095, tagState := .confirmed }
    let s := { withMsg x msg0 scanning with tags := [(4095, 16383)] }
    (Taking .A 59 {} s ∧ s.part = .ready ∧ s.control.holder = some .A) ∧
      Names { selector := 0, name := 16383 } 16383 s ∧ s.sub? 16383 = some { x with queue := [1] } ∧
      s.msg? 1 = some msg0 ∧ msg0.state = .waiting ∧ sub0.state = .active :=
  ⟨taken _ (by decide), Or.inl (by decide), by decide, by decide, by decide, by decide⟩

theorem witness_AccountAndSettingsSlips :
    let s := withMsg sub0 msg0 scanning
    (Taking .A 59 {} s ∧ s.part = .ready ∧ s.control.holder = some .A) ∧ (15 : Word).toNat = (15 : Fin 16).val ∧
      s.sub? msg0.slot = some { sub0 with queue := [1] } ∧ (3 : Fin 4).val = min 3 (4 : Byte).toNat ∧
      Names { selector := 1, name := 100 } 16383 s ∧ (s.plan sub0.plan).kind = .postpaid ∧ s.walk.running = false ∧
      (walking 0 sub0).walk.running = true ∧ 1 < (2 : Byte).toNat ∧ (1 : Byte).toNat ≤ 1 :=
  ⟨taken _ (by decide), by decide, by decide, by decide, Or.inr (by decide), by decide, by decide, by decide, by decide,
    by decide⟩

theorem witness_LineAndZoneSlips :
    (Taking .A 59 {} scanning ∧ scanning.part = .ready ∧ scanning.control.holder = some .A) ∧ 8 ≤ (8 : Word).toNat ∧
      (7 : Word).toNat = (7 : Fin 8).val ∧ (scanning.line 7).state = .closed ∧ (scanning.zone 7).link = .idle ∧
      ((withLine0 fun x => { x with state := .opened }).line 7).state = .opened ∧
      ((withZone0 fun x => { x with link := .test }).zone 7).link = .test ∧
      ((withZone0 fun x => { x with link := .down }).zone 7).link = .down :=
  ⟨taken _ (by decide), by decide⟩

theorem witness_SlipRefusals :
    let c := Instr.setBand .A 59 0 {}
    slipOf c = some (.A, 59, {}) ∧ Taking .A 59 {} scanning ∧ Taking .A 59 {} { scanning with part := .starting } ∧
      slipOf (.malformedSlip .A 59 13 0 {}) = some (.A, 59, {}) ∧ needsControl c = true ∧
      { scanning with control.holder := none }.control.holder ≠ some .A :=
  ⟨by decide, taking0 _ (by decide) (by decide), taking0 _ (by decide) (by decide), by decide, by decide, by decide⟩

theorem witness_SlipRefusals_first :
    let s := { scanning with control.holder := none }
    (s.part = .ready ∧ s.control.holder ≠ some .A ∧ s.canTake .A 59 = true) ∧
      failsBeforeControl (.setBand .A 59 0 {}) = none ∧ failsBeforeControl (.lineOpen .A 59 7 {}) = none ∧
      failsBeforeControl (.lineOpen .A 59 8 {}) = some .badLine ∧ failsBeforeControl (.zoneTest .A 59 8 {}) = some .badZone ∧
      failsBeforeControl (.subscriberRead .A 59 { selector := 2, name := 0 } {}) = some .malformed ∧
      needsControl (.subscriberRead .A 59 { selector := 2, name := 0 } {}) = true := by decide

theorem witness_SlipRefusals_names :
    let c := fun n : SubName => Instr.subscriberSuspend .A 59 n {}
    let s := { scanning with numbers := [(100, 16383)] }
    (∀ n, slipOf (c n) = some (.A, 59, {})) ∧ (Taking .A 59 {} s ∧ s.part = .ready ∧ s.control.holder = some .A) ∧
      ((2 : Byte) ≠ 0 ∧ (2 : Byte) ≠ 1) ∧ 16383 < (16384 : Word).toNat ∧ Assoc.get? (101 : Word).toNat s.numbers = none ∧
      (Names { selector := 0, name := 16383 } 16383 s ∧ Names { selector := 1, name := 100 } 16383 s ∧
        s.sub? 16383 = none ∧ c { selector := 0, name := 16383 } ≠ .subscriberRead .A 59 { selector := 0, name := 16383 } {}) :=
  ⟨fun _ => rfl, taken _ (by decide), by decide, by decide, by decide, Or.inl (by decide), Or.inr (by decide), by decide,
    by decide⟩

theorem witness_SlipRoundTrip :
    let c := Instr.submit .B 63 (submit0 2 (List.replicate 3 0x41)) {}
    slipOf c = some (.B, 63, {}) ∧ c.wellFormed = true ∧ (encodeSlip c).isSome = true := by decide

theorem witness_RatingStages :
    let i : RateInput :=
      { cells := 50, allowance := 0, base := 65535, cell := 65535, band := 255, surcharge := 200,
        search := 65535, extra := 255, transmitted := true, delivered := true, undelivered := 100, cap := 0 }
    i.transmitted = true ∧ i.cells ≤ 50 ∧ i.base ≤ 65535 ∧ i.cell ≤ 65535 ∧ i.band ≤ 255 ∧ i.surcharge ≤ 200 ∧
      i.search ≤ 65535 ∧ i.extra ≤ 255 ∧ i.undelivered ≤ 100 ∧ chargeOf i = 56662176 := by decide

end Sys2Proof.Tests
end

section
/-! PROOFS. Wake windows (R4): the distance to the first wake window and the strides beyond it. -/

namespace Sys2Proof.Machine

theorem stride_pos (c : Fin 4) : 0 < stride c := by
  revert c; decide

theorem stride_le (c : Fin 4) : stride c ≤ 96 :=
  Nat.div_le_self _ _

/-- The first wake window lies less than a stride on, at the distance that R4 names. -/
theorem firstWake_eq_add (home : Nat) (c : Fin 4) (x : Win) :
    ∃ d < stride c, ((d : Int) - ((home : Int) - ((x.toNat % 96 : Nat) : Int))) % (stride c : Int) = 0 ∧
      firstWake home c x = x + BitVec.ofNat 32 d := by
  have hk : (0 : Int) < stride c := by exact_mod_cast stride_pos c
  generalize ha : (home : Int) - ((x.toNat % 96 : Nat) : Int) = a
  obtain ⟨d, hd⟩ := Int.eq_ofNat_of_zero_le (Int.emod_nonneg a hk.ne')
  refine ⟨d, ?_, ?_, ?_⟩
  · exact_mod_cast hd ▸ Int.emod_lt_of_pos a hk
  · rw [← hd, Int.sub_emod, Int.emod_emod, sub_self, Int.zero_emod]
  · rw [firstWake, ha, hd]
    exact congrArg (x + ·) (BitVec.ofInt_natCast 32 d)

/-- Settles O18: the distance of the first wake window, and the strides that lead from it to the `m`-th. -/
theorem wakeWindows : Obligations.WakeWindows := by
  intro sub x m _ hm1 hm8
  obtain ⟨d, hlt, hmod, hfirst⟩ := firstWake_eq_add sub.home sub.wake x
  refine ⟨d, stride sub.wake, rfl, hlt, hmod, hfirst, ?_, ?_, rfl⟩
  · rw [nthWake, hfirst, BitVec.add_assoc, ← BitVec.ofNat_add]
  · calc d + (m - 1) * stride sub.wake
        ≤ stride sub.wake + (m - 1) * stride sub.wake := by omega
      _ = m * stride sub.wake := by rw [Nat.add_comm, ← Nat.succ_mul, Nat.succ_eq_add_one, Nat.sub_add_cancel hm1]
      _ ≤ 8 * 96 := Nat.mul_le_mul hm8 (stride_le _)

end Sys2Proof.Machine
end

section
/-! PROOFS. SUBSCRIBER ADD (R13, R14): what its refusals answer, and what an ADD that passes writes. -/

namespace Sys2Proof.Machine

/-! ### The state that a scan has reached: only the scan differs -/

@[simp] theorem State.reached_control (p : Port) (ix : Fin 64) (s : State) : (s.reached p ix).control = s.control :=
  s.modPort_control _ _

@[simp] theorem State.reached_slots (p : Port) (ix : Fin 64) (s : State) : (s.reached p ix).slots = s.slots :=
  s.modPort_slots _ _

@[simp] theorem State.reached_numbers (p : Port) (ix : Fin 64) (s : State) : (s.reached p ix).numbers = s.numbers :=
  s.modPort_numbers _ _

@[simp] theorem State.reached_pagers (p : Port) (ix : Fin 64) (s : State) : (s.reached p ix).pagers = s.pagers :=
  s.modPort_pagers _ _

@[simp] theorem State.reached_globalPeriod (p : Port) (ix : Fin 64) (s : State) :
    (s.reached p ix).globalPeriod = s.globalPeriod :=
  s.modPort_globalPeriod _ _

@[simp] theorem State.reached_holds (p q : Port) (ix : Fin 64) (s : State) : (s.reached p ix).holds q = s.holds q := by
  simp [State.holds]

@[simp] theorem State.reached_slot (p : Port) (ix : Fin 64) (s : State) (n : Nat) :
    (s.reached p ix).slot n = s.slot n := by
  simp [State.slot]

@[simp] theorem State.reached_sub? (p : Port) (ix : Fin 64) (s : State) (n : Nat) :
    (s.reached p ix).sub? n = s.sub? n := by
  simp [State.sub?]

@[simp] theorem State.reached_plan (p : Port) (ix : Fin 64) (s : State) (k : Fin 16) :
    (s.reached p ix).plan k = s.plan k := by
  simp [State.reached, State.plan]

@[simp] theorem State.reached_area (p q : Port) (ix : Fin 64) (s : State) :
    ((s.reached p ix).port q).area = (s.port q).area := by
  cases p <;> cases q <;> rfl

/-! ### The operands -/

theorem asPlan_of_toNat_eq {n : Nat} {plan : Fin 16} (h : n = plan.val) : asPlan n = some plan := by
  subst h
  exact dif_pos plan.isLt

theorem homeOf_eq (b : Byte) : homeOf b = (min 95 b.toNat, decide (95 < b.toNat)) := by
  rw [homeOf, clampTo, if_neg (Nat.not_lt_zero _)]
  split
  · next h => rw [min_eq_left h.le, decide_eq_true h]
  · next h => rw [min_eq_right (Nat.not_lt.1 h), decide_eq_false h]

theorem wakeOf_eq {b : Byte} {wake : Fin 4} (h : wake.val = min 3 b.toNat) :
    wakeOf b = (wake, decide (3 < b.toNat)) := by
  unfold wakeOf
  split
  · exact Prod.ext (Fin.ext (by dsimp only; omega)) (decide_eq_false (by omega)).symm
  · exact Prod.ext (Fin.ext (by dsimp only; omega)) (decide_eq_true (by omega)).symm

theorem badNumber_iff {w : Word} : badNumber w = true ↔ w = 0 ∨ 99999999 < w.toNat :=
  decide_eq_true_iff

theorem badPager_iff {w : BitVec 24} : badPager w = true ↔ w = 0 :=
  decide_eq_true_iff

/-- The only flag that an ADD answers is CLAMPED. -/
theorem slipFlags_clamped (c : Bool) : slipFlags c false false false = if c then 1 else 0 := by
  cases c <;> rfl

/-! ### The checks and the write -/

/-- The checks read nothing that a scan's progress changes. -/
theorem addRefusal_reached (p : Port) (ix : Fin 64) (r : AddReq) (s : State) :
    addRefusal p r (s.reached p ix) = addRefusal p r s := by
  simp [addRefusal]

theorem addRefusal_ne_malformed {p : Port} {r : AddReq} {s : State} {c : Code} (h : addRefusal p r s = some c) :
    c ≠ .malformed := by
  rintro rfl
  unfold addRefusal at h
  split_ifs at h <;> cases h

/-- An ADD that fails a check is answered with that check's code and has no effect. -/
theorem subscriberAdd_refused {p : Port} {ix : Fin 64} {r : AddReq} {b : Bus} {s : State} {c : Code}
    (ht : Taking p ix b s) (hr : s.part = .ready) (hc : addRefusal p r s = some c) :
    Answers (.subscriberAdd p ix r b) p ix b s (s.reached p ix) { code := c } := by
  refine slipEvent_answers (act := addAct p r) ht hr rfl ?_ (addRefusal_ne_malformed hc) (by simp)
  simp only [addAct, addRefusal_reached, hc, refuse]

/-- The record that an ADD writes, its schedule clamped (R13, R14). -/
theorem newSubscriber_reached {r : AddReq} {plan : Fin 16} {wake : Fin 4} (hw : wake.val = min 3 r.wake.toNat) (p : Port)
    (ix : Fin 64) (s : State) :
    newSubscriber r plan (s.reached p ix) =
      { newSubscriber r plan s with home := min 95 r.home.toNat, wake := wake } := by
  simp [newSubscriber, homeOf_eq, wakeOf_eq hw]

/-- An ADD that passes its checks writes the record and the entries of both maps (R14). -/
theorem subscriberAdd_done {p : Port} {ix : Fin 64} {r : AddReq} {b : Bus} {s : State} {plan : Fin 16} {wake : Fin 4}
    (ht : Taking p ix b s) (hr : s.part = .ready) (hc : addRefusal p r s = none) (hp : r.plan.toNat = plan.val)
    (hw : wake.val = min 3 r.wake.toNat) :
    Answers (.subscriberAdd p ix r b) p ix b s
      { s.reached p ix with
        slots := Assoc.put r.slot.toNat
          { sub := some { newSubscriber r plan s with home := min 95 r.home.toNat, wake := wake },
            finalCount := (s.slot r.slot.toNat).finalCount } s.slots,
        numbers := Assoc.put r.number.toNat r.slot.toNat s.numbers,
        pagers := Assoc.put r.pager.toNat r.slot.toNat s.pagers }
      { code := .done, flags := if 95 < r.home.toNat ∨ 3 < r.wake.toNat then 1 else 0 } := by
  refine slipEvent_answers (act := addAct p r) ht hr rfl ?_ Code.noConfusion (s.reached_area p p ix)
  simp [addAct, addRefusal_reached, hc, asPlan_of_toNat_eq hp, newSubscriber_reached hw, State.setSlot, homeOf_eq,
    wakeOf_eq hw, slipFlags_clamped]

/-- Settles O53, check by check in their order: where one fails, its refusal; where it is passed, what is left of the
checks. -/
theorem subscriberAdd : Obligations.SubscriberAdd := by
  intro p ix r b s ht hr hholder
  dsimp only
  have refuses {c : Code} (hc : addRefusal p r s = some c) := subscriberAdd_refused ht hr hc
  have held := (addRefusal.eq_def p r s).trans (if_neg (by simp [State.holds, hholder]))
  have fits (hslot : r.slot.toNat ≤ 16383) := held.trans (if_neg hslot.not_gt)
  have vacant hslot (hsub : s.sub? r.slot.toNat = none) := (fits hslot).trans (if_neg (by simp [hsub]))
  refine ⟨fun hslot => refuses (held.trans (if_pos hslot)),
    fun hslot hused => refuses ((fits hslot).trans (if_pos hused)),
    fun hslot hsub hfinal => refuses ((vacant hslot hsub).trans (if_pos hfinal)), fun hslot hsub hfinal => ?_⟩
  have drained := (vacant hslot hsub).trans (if_neg (not_not.2 hfinal))
  refine ⟨fun hbad => refuses (drained.trans (if_pos (badNumber_iff.2 hbad))), fun hzero hmax => ?_⟩
  have numbered := drained.trans (if_neg fun hbad => (badNumber_iff.1 hbad).elim hzero hmax.not_gt)
  refine ⟨fun hbad => refuses (numbered.trans (if_pos (badPager_iff.2 hbad))), fun hpager => ?_⟩
  have paged := numbered.trans (if_neg fun hbad => hpager (badPager_iff.1 hbad))
  refine ⟨fun hheld => refuses (paged.trans (if_pos hheld)), fun hnew => ?_⟩
  have newNumber := paged.trans (if_neg (by simp [hnew]))
  refine ⟨fun hheld => refuses (newNumber.trans (if_pos hheld)), fun hnew => ?_⟩
  have newPager := newNumber.trans (if_neg (by simp [hnew]))
  refine ⟨fun hempty => refuses (newPager.trans (if_pos hempty)),
    fun harea hplan => refuses ((newPager.trans (if_neg harea)).trans (if_pos hplan)),
    fun plan wake harea hplan hwake => ?_⟩
  have passes : addRefusal p r s = none := (newPager.trans (if_neg harea)).trans (if_neg (by omega))
  have written := subscriberAdd_done ht hr passes hplan hwake
  rw [hfinal] at written
  exact written

end Sys2Proof.Machine
end

section
/-! PROOFS. Rating (R155 to R159): how each stage acts on its special rates, and how its result grows with its inputs. -/

namespace Sys2Proof.Machine

section Stages

variable {i : RateInput}

/-! ### The charge by its stages -/

theorem chargeable_eq_ite (i : RateInput) :
    chargeable i = if i.allowance < i.cells then i.cells - i.allowance else 0 := by
  unfold chargeable
  split <;> omega

theorem bandedCharge_of_band_64 (h : i.band = 64) : bandedCharge i = rawCharge i := by
  rw [bandedCharge, h]
  omega

theorem bandedCharge_of_band_96 (h : i.band = 96) : bandedCharge i = (3 * rawCharge i + 1) / 2 := by
  rw [bandedCharge, h]
  omega

theorem bandedCharge_of_band_32 (h : i.band = 32) : bandedCharge i = (rawCharge i + 1) / 2 := by
  rw [bandedCharge, h]
  omega

theorem prioritised_of_surcharge_zero (h : i.surcharge = 0) : prioritised i = bandedCharge i := by
  simp [prioritised, h]

theorem prioritised_of_band_zero (h : i.band = 0) : prioritised i = 0 := by
  have hbanded : bandedCharge i = 0 := by simp [bandedCharge, h]
  simp [prioritised, hbanded]

theorem chargeOf_of_not_transmitted (h : i.transmitted = false) : chargeOf i = 0 := by
  simp [chargeOf, h]

theorem chargeOf_of_transmitted (h : i.transmitted = true) :
    chargeOf i =
      let factored := if i.delivered then totalCharge i else (totalCharge i * i.undelivered + 50) / 100
      if i.cap = 0 then factored else min factored i.cap := by
  rw [chargeOf, if_pos h]

theorem allowanceUsedOf_of_not_transmitted (h : i.transmitted = false) : allowanceUsedOf i = 0 := by
  simp [allowanceUsedOf, h]

theorem allowanceUsedOf_of_transmitted (h : i.transmitted = true) : allowanceUsedOf i = min i.cells i.allowance :=
  if_pos h

/-! ### The bounds: no stage falls when its inputs rise, and the last two never raise the total -/

theorem rawCharge_le {b c n : Nat} (hbase : i.base ≤ b) (hcell : i.cell ≤ c) (hcells : i.cells ≤ n) :
    rawCharge i ≤ b + c * n := by
  unfold rawCharge
  split
  · exact Nat.zero_le _
  · have hchargeable : chargeable i ≤ n := (Nat.sub_le _ _).trans hcells
    gcongr

theorem bandedCharge_le {r m : Nat} (hraw : rawCharge i ≤ r) (hband : i.band ≤ m) :
    bandedCharge i ≤ (r * m + 32) / 64 := by
  unfold bandedCharge
  gcongr

theorem prioritised_le {n p : Nat} (hbanded : bandedCharge i ≤ n) (hsurcharge : i.surcharge ≤ p) :
    prioritised i ≤ n + (n * p + 50) / 100 := by
  unfold prioritised
  gcongr

theorem totalCharge_le {n s e : Nat} (hprioritised : prioritised i ≤ n) (hsearch : i.search ≤ s)
    (hextra : i.extra ≤ e) : totalCharge i ≤ n + s * e := by
  unfold totalCharge
  gcongr

/-- A share of at most 100 percent, rounded with a half upward, is at most the whole. -/
theorem roundedPercent_le {p : Nat} (hp : p ≤ 100) (n : Nat) : (n * p + 50) / 100 ≤ n := by
  have hshare : n * p ≤ n * 100 := Nat.mul_le_mul_left n hp
  omega

theorem chargeOf_le_totalCharge (hundelivered : i.undelivered ≤ 100) : chargeOf i ≤ totalCharge i := by
  cases htransmitted : i.transmitted with
  | false => exact (chargeOf_of_not_transmitted htransmitted).trans_le (Nat.zero_le _)
  | true =>
    have hfactored : (if i.delivered then totalCharge i else (totalCharge i * i.undelivered + 50) / 100)
        ≤ totalCharge i := by
      split
      · exact le_rfl
      · exact roundedPercent_le hundelivered _
    rw [chargeOf_of_transmitted htransmitted]
    dsimp only
    split
    · exact hfactored
    · exact (min_le_left _ _).trans hfactored

theorem chargeOf_le_cap (hcap : i.cap ≠ 0) : chargeOf i ≤ i.cap := by
  rw [chargeOf, if_neg hcap]
  exact min_le_right _ _

theorem allowanceUsedOf_le_min (i : RateInput) : allowanceUsedOf i ≤ min i.cells i.allowance := by
  unfold allowanceUsedOf
  split
  · exact le_rfl
  · exact Nat.zero_le _

/-- With every input at the top of its range: raw 3,342,285, banded 13,316,917, prioritised 39,950,751. -/
theorem totalCharge_le_max (hcells : i.cells ≤ 50) (hbase : i.base ≤ 65535) (hcell : i.cell ≤ 65535)
    (hband : i.band ≤ 255) (hsurcharge : i.surcharge ≤ 200) (hsearch : i.search ≤ 65535) (hextra : i.extra ≤ 255) :
    totalCharge i ≤ 56662176 := by
  have hraw : rawCharge i ≤ 3342285 := rawCharge_le hbase hcell hcells
  have hbanded : bandedCharge i ≤ 13316917 := bandedCharge_le hraw hband
  have hprioritised : prioritised i ≤ 39950751 := prioritised_le hbanded hsurcharge
  exact totalCharge_le hprioritised hsearch hextra

end Stages

/-- Settles O60: the stages by their equations, and the bounds from the largest total. -/
theorem ratingStages : Obligations.RatingStages := by
  intro i
  refine ⟨chargeable_eq_ite i, rfl, rfl, bandedCharge_of_band_64, bandedCharge_of_band_96, bandedCharge_of_band_32,
    prioritised_of_band_zero, rfl, prioritised_of_surcharge_zero, rfl,
    fun h => ⟨chargeOf_of_not_transmitted h, allowanceUsedOf_of_not_transmitted h⟩,
    fun h => ⟨allowanceUsedOf_of_transmitted h, chargeOf_of_transmitted h⟩,
    fun hcells hbase hcell hband hsurcharge hsearch hextra hundelivered => ?_⟩
  have htotal := totalCharge_le_max hcells hbase hcell hband hsurcharge hsearch hextra
  obtain ⟨hused, hallowance⟩ := le_min_iff.1 (allowanceUsedOf_le_min i)
  exact ⟨(chargeOf_le_totalCharge hundelivered).trans htotal, hused.trans hcells, hallowance, chargeOf_le_cap⟩

end Sys2Proof.Machine
end
